-- ==== Sys2Proof/Word.lean ====
section
/-! DEFINITION. The two word sizes of the machine (00_scope.md R5, R10): 8-bit data and 16-bit
pairs, pointers and addresses. All arithmetic on them wraps, which is what `BitVec` does. -/

namespace Sys2Proof

/-- An 8-bit value, the `u8` of 00_scope.md R10. -/
abbrev Byte := BitVec 8

/-- A 16-bit value or address, the `u16` of 00_scope.md R10. -/
abbrev Word := BitVec 16

end Sys2Proof
end

