-- ==== Sys2Proof/Machine/Bits.lean ====
section
/-! DEFINITION. Bit fields, byte order and sign extension (00_scope.md R9-R11, 20_memory.md R75). -/

namespace Sys2Proof

/-- `lo(v) = v[7:0]` (00_scope.md R10). -/
def lo (v : Word) : Byte := v.setWidth 8

/-- `hi(v) = v[15:8]` (00_scope.md R10). -/
def hi (v : Word) : Byte := (v >>> 8).setWidth 8

/-- `h:l`, the pair whose high byte is `h` (00_scope.md R9). -/
def pair (h l : Byte) : Word := h ++ l

/-- `sext_16(e)` (00_scope.md R10). -/
def sext16 (e : Byte) : Word := e.signExtend 16

/-- One bit as a one-bit vector. -/
def bit (b : Bool) : BitVec 1 := BitVec.ofBool b

end Sys2Proof
end

