-- ==== Sys2Proof/WellFormed.lean ====
section
/-! DEFINITION. Which terms of `Instr` are whole instructions. Every immediate has exactly the
values its encoding admits (its type says so), so the one check left is about the CB prefix. -/

namespace Sys2Proof

/-- Not the bare CB prefix: the prefix and its second byte form one instruction (45_system.md R291),
which is the constructor of the CB row. -/
def Instr.notBarePrefix : Instr → Bool
  | .prefix_CB _ => false
  | _ => true

/-- A whole instruction, as the decoder delivers it. -/
def Instr.wellFormed (i : Instr) : Bool := i.notBarePrefix

end Sys2Proof
end

