-- ==== Sys2Proof/Config.lean ====
section
/-! DEFINITION. The parameters of 00_scope.md R6 that are fixed for a machine. `ROM`, `SAVE` and
`INIT_RAM` are arguments of the construction (Machine/HostIface.lean) instead. -/

namespace Sys2Proof

/-- What `pixels()` returns (00_scope.md R6, 60_exceptions.md R398). -/
inductive PixelFormat where
  | index
  | rgba
deriving DecidableEq, Repr, Inhabited

/-- Mode-3 length in dots, fixed at 172 (00_scope.md R6, decision D25). -/
def Config.t3 : Nat := 172

/-- Initial value of the 16-bit timer counter (00_scope.md R6, decision D5). -/
def Config.divInit : Word := 0xABCC#16

/-- Whether a wrong header checksum rejects the ROM (00_scope.md R6, decision D39). -/
def Config.checkHeaderChecksum : Bool := false

/-- `PIXEL_FORMAT` of 00_scope.md R6: open, fixed per build (decision D28, log entry 11). It has no
body, so no statement can depend on which of the two it is. -/
opaque Config.pixelFormat : PixelFormat

end Sys2Proof
end

