-- ==== Sys2Proof/Machine/State.lean ====
section
/-! DEFINITION. Everything the spec gives the machine (10_state.md; 20_memory.md R100-R116), as plain
data, and the machine right after reset (70_reset_and_hazards.md R400). -/

namespace Sys2Proof.Machine

/-- Why a step stops with a fault. -/
inductive Fault where
  /-- `IllegalOpcode(pc, op)`: an unused opcode `op` was fetched at `pc` (45_system.md R300). Raised
  by `machineStep` after the meaning of an `illegal_` constructor has recorded it, and by every later
  step. The spec describes exactly this stop, so it is safe. -/
  | illegalOpcode (pc : Word) (op : Byte)
deriving DecidableEq, Repr

/-- Why an instruction has no meaning here. -/
inductive Refusal where
  /-- An arm of `exec` that was not yet modelled, by its mnemonic. No arm raises it. Safe. -/
  | notModelled (mnemonic : String)
deriving DecidableEq, Repr

/-- A sparse array of `w`-bit entries: (index, value) pairs, indexes strictly rising, no value zero
(`Cells.wf`). An index that is not listed reads as zero. -/
abbrev Cells (w : Nat) := List (Nat × BitVec w)

/-- A byte memory, by offset: a list of `Host.Cell`. -/
abbrev Memory := Cells 8

/-- A plane of 2-bit entries, row-major, 160 to a row (10_state.md R50). -/
abbrev Plane := Cells 2

/-- The registers of 10_state.md R20, R21 and the latches of R25-R30. -/
structure Cpu where
  a : Byte
  f : Byte
  b : Byte
  c : Byte
  d : Byte
  e : Byte
  h : Byte
  l : Byte
  sp : Word
  pc : Word
  /-- IME (R25). -/
  ime : Bool
  /-- `ei_pending` (R26). -/
  eiPending : Bool
  /-- `halted` (R27). -/
  halted : Bool
  /-- `stopped` (R28). -/
  stopped : Bool
  /-- `halt_bug` (R29). -/
  haltBug : Bool
  /-- `fault` (R30). -/
  fault : Option Fault
  /-- The `pc0` of 30_encoding.md R138: where the instruction being executed was fetched. The model's
  own latch (log entry 4). -/
  opAddr : Word
  /-- The T-cycles that the CPU step returns (60_exceptions.md R310). The model's own place for it
  (log entry 4). -/
  stepCost : Nat
deriving DecidableEq, Repr

/-- The interrupt controller (10_state.md R32, R33). -/
structure Irq where
  /-- IF, its five stored bits. -/
  ifl : BitVec 5
  /-- IE. -/
  ie : Byte
deriving DecidableEq, Repr

/-- The timer (10_state.md R34-R38). -/
structure Timer where
  tcount : Word
  tima : Byte
  tma : Byte
  /-- TAC, its three stored bits. -/
  tac : BitVec 3
  /-- `reload_cnt`: 0, or the T-cycles left to the reload. -/
  reloadCnt : Nat
deriving DecidableEq, Repr

/-- The eight buttons, in the index order of 10_state.md R40. -/
structure Buttons where
  down : Bool
  up : Bool
  left : Bool
  right : Bool
  a : Bool
  b : Bool
  select : Bool
  start : Bool
deriving DecidableEq, Repr

/-- The joypad (10_state.md R39, R40). -/
structure Joypad where
  /-- P1 bits 5-4: bit 0 here is P1 bit 4 (directions), bit 1 is P1 bit 5 (actions). -/
  sel : BitVec 2
  pressed : Buttons
deriving DecidableEq, Repr

/-- SB and SC (10_state.md R52). SC keeps bits 7 and 0 only. -/
structure Serial where
  sb : Byte
  sc : Byte
deriving DecidableEq, Repr

/-- The PPU modes (10_state.md R42): 0, 1, 2 and 3. -/
inductive Mode where
  | hblank
  | vblank
  | oamScan
  | transfer
deriving DecidableEq, Repr

/-- The PPU's registers, internal state and framebuffer (10_state.md R41-R50). -/
structure Ppu where
  lcdc : Byte
  /-- STAT bits 6-3, the source enables. -/
  statEn : BitVec 4
  /-- STAT bit 2. -/
  coincidence : Bool
  mode : Mode
  scy : Byte
  scx : Byte
  ly : Byte
  lyc : Byte
  bgp : Byte
  obp0 : Byte
  obp1 : Byte
  wy : Byte
  wx : Byte
  dot : Nat
  windowLine : Nat
  statLine : Bool
  lineSprites : List Nat
  fbIndex : Plane
  fbShade : Plane
deriving DecidableEq, Repr

/-- The OAM DMA engine (10_state.md R46, R51). -/
structure Dma where
  /-- The DMA register FF46, as last written. -/
  reg : Byte
  active : Bool
  src : Byte
  t : Nat
deriving DecidableEq, Repr

/-- MBC1 registers (20_memory.md R105). -/
structure Mbc1 where
  ramEnabled : Bool
  bank5 : BitVec 5
  bank2 : BitVec 2
  mode : BitVec 1
deriving DecidableEq, Repr

/-- MBC3 registers (20_memory.md R108). -/
structure Mbc3 where
  ramEnabled : Bool
  bank7 : BitVec 7
  sel : Byte
deriving DecidableEq, Repr

/-- MBC5 registers (20_memory.md R112). -/
structure Mbc5 where
  ramEnabled : Bool
  bank9 : BitVec 9
  rbank4 : BitVec 4
deriving DecidableEq, Repr

/-- The bank controller of the variant selected at load (20_memory.md R100). -/
inductive Mbc where
  | romOnly
  | mbc1 (m : Mbc1)
  | mbc3 (m : Mbc3)
  | mbc5 (m : Mbc5)
deriving DecidableEq, Repr

/-- The cartridge (10_state.md R56; 20_memory.md R100-R102). -/
structure Cart where
  /-- The ROM image, by offset. -/
  rom : Memory
  romBanks : Nat
  /-- The external RAM array ERAM, by offset. -/
  eram : Memory
  ramSize : Nat
  /-- The type's BATTERY flag. -/
  battery : Bool
  mbc : Mbc
deriving DecidableEq, Repr

/-- The whole machine. -/
structure State where
  cpu : Cpu
  irq : Irq
  timer : Timer
  joypad : Joypad
  serial : Serial
  ppu : Ppu
  dma : Dma
  cart : Cart
  /-- VRAM, by offset from 0x8000 (10_state.md R53). -/
  vram : Memory
  /-- WRAM, by offset from 0xC000. -/
  wram : Memory
  /-- OAM, by offset from 0xFE00. -/
  oam : Memory
  /-- HRAM, by offset from 0xFF80. -/
  hram : Memory
deriving DecidableEq, Repr

/-- The CPU at reset (10_state.md R20-R30). -/
def Cpu.reset : Cpu :=
  { a := 0x01, f := 0xB0, b := 0x00, c := 0x13, d := 0x00, e := 0xD8, h := 0x01, l := 0x4D
    sp := 0xFFFE, pc := 0x0100
    ime := false, eiPending := false, halted := false, stopped := false, haltBug := false
    fault := none, opAddr := 0, stepCost := 0 }

/-- The PPU at reset (10_state.md R41-R50). -/
def Ppu.reset : Ppu :=
  { lcdc := 0x91, statEn := 0, coincidence := true, mode := .oamScan
    scy := 0, scx := 0, ly := 0, lyc := 0, bgp := 0xFC, obp0 := 0xFF, obp1 := 0xFF, wy := 0, wx := 0
    dot := 0, windowLine := 0, statLine := false, lineSprites := [], fbIndex := [], fbShade := [] }

/-- The machine right after reset with a given cartridge and given contents of VRAM, WRAM, OAM and
HRAM (70_reset_and_hazards.md R400). -/
def State.launch (cart : Cart) (vram wram oam hram : Memory) : State :=
  { cpu := Cpu.reset
    irq := { ifl := 0b00001, ie := 0x00 }
    timer := { tcount := Config.divInit, tima := 0, tma := 0, tac := 0, reloadCnt := 0 }
    joypad :=
      { sel := 0b00
        pressed := { down := false, up := false, left := false, right := false, a := false
                     b := false, select := false, start := false } }
    serial := { sb := 0, sc := 0 }
    ppu := Ppu.reset
    dma := { reg := 0xFF, active := false, src := 0, t := 0 }
    cart, vram, wram, oam, hram }

/-- A 32 KiB ROM-only image of 0x00 bytes: what State.reset has in its slot (log entry 2). -/
def Cart.blank : Cart :=
  { rom := [], romBanks := 2, eram := [], ramSize := 0, battery := false, mbc := .romOnly }

/-- The machine right after reset: R400's values, the blank cartridge of log entry 2 and INIT_RAM =
0x00 (log entry 1), so that no memory lists anything. -/
def State.reset : State := State.launch Cart.blank [] [] [] []

end Sys2Proof.Machine
end

