-- ==== Sys2Proof/Machine/Cells.lean ====
section
/-! DEFINITION. Operations on the sparse arrays that hold every memory and the framebuffer: reading,
writing, and their one canonical form. -/

namespace Sys2Proof.Machine

/-- What an index that is not listed reads as. For the RAMs this is log entry 1's choice, for the
framebuffer the reset value of 10_state.md R50. -/
def unlisted (w : Nat) : BitVec w := 0#w

/-- The entry at index `a`. -/
def Cells.read {w : Nat} : Cells w → Nat → BitVec w
  | [], _ => unlisted w
  | (k, v) :: m, a => if k = a then v else Cells.read m a

/-- Drop the entry at index `a`. -/
def Cells.erase {w : Nat} : Cells w → Nat → Cells w
  | [], _ => []
  | (k, v) :: m, a => if k = a then Cells.erase m a else (k, v) :: Cells.erase m a

/-- List `v` at index `a`, before the first greater index. -/
def Cells.insert {w : Nat} : Cells w → Nat → BitVec w → Cells w
  | [], a, v => [(a, v)]
  | (k, x) :: m, a, v => if a < k then (a, v) :: (k, x) :: m else (k, x) :: Cells.insert m a v

/-- Store `v` at index `a`. Storing what an unlisted index reads as removes the entry. -/
def Cells.write {w : Nat} (m : Cells w) (a : Nat) (v : BitVec w) : Cells w :=
  if v = unlisted w then Cells.erase m a else Cells.insert (Cells.erase m a) a v

/-- The listing of a row of values from index `base` on. -/
def Cells.ofList {w : Nat} : Nat → List (BitVec w) → Cells w
  | _, [] => []
  | base, v :: row =>
    if v = unlisted w then Cells.ofList (base + 1) row else (base, v) :: Cells.ofList (base + 1) row

/-- The entries below `n`. -/
def Cells.takeBelow {w : Nat} (m : Cells w) (n : Nat) : Cells w := m.filter fun c => decide (c.1 < n)

/-- The entries from `n` on. -/
def Cells.dropBelow {w : Nat} (m : Cells w) (n : Nat) : Cells w := m.filter fun c => decide (n ≤ c.1)

/-- Replace the entries from `base` on by a row of values. -/
def Cells.writeRow {w : Nat} (m : Cells w) (base : Nat) (row : List (BitVec w)) : Cells w :=
  m.takeBelow base ++ Cells.ofList base row ++ m.dropBelow (base + row.length)

/-- The canonical form: indexes strictly rising, and no entry equal to what an unlisted index reads
as. Two arrays in this form that read alike are equal. -/
def Cells.wf {w : Nat} : Cells w → Bool
  | [] => true
  | (k, v) :: m => decide (v ≠ unlisted w) && m.all (fun c => decide (k < c.1)) && Cells.wf m

/-- Every index listed lies below `n`. -/
def Cells.within {w : Nat} (m : Cells w) (n : Nat) : Bool := m.all fun c => decide (c.1 < n)

/-- The first `n` entries, in order. -/
def Cells.toList {w : Nat} (m : Cells w) (n : Nat) : List (BitVec w) := (List.range n).map m.read

/-- The canonical form of a byte memory. -/
abbrev Memory.wf (m : Memory) : Bool := Cells.wf m

end Sys2Proof.Machine
end

