-- ==== Sys2Proof/Machine/Cartridge.lean ====
section
/-! DEFINITION. The cartridge's bank controllers (20_memory.md R102-R115): how a cartridge address
reaches the ROM image or the external RAM, and what a write to 0000-7FFF does. -/

namespace Sys2Proof.Machine

/-- `rom_at(bank, off)` as an offset into the image (20_memory.md R102). -/
def Cart.romAt (c : Cart) (bank off : Nat) : Nat := bank % c.romBanks * 0x4000 + off

/-- `ram_at(rbank, off)` as an offset into ERAM (20_memory.md R102). -/
def Cart.ramAt (c : Cart) (rbank off : Nat) : Nat := (rbank * 0x2000 + off) % c.ramSize

/-- MBC1 ROM bank of 4000-7FFF (20_memory.md R107). -/
def Mbc1.romBank (m : Mbc1) : Nat := if m.mode = 0#1 then (m.bank2 ++ m.bank5).toNat else m.bank5.toNat

/-- MBC1 RAM bank (20_memory.md R107). -/
def Mbc1.ramBank (m : Mbc1) : Nat := if m.mode = 0#1 then 0 else m.bank2.toNat

/-- The ROM bank mapped at 4000-7FFF, of a controller (20_memory.md R107, R110, R114). -/
def Mbc.romBank : Mbc → Nat
  | .romOnly => 1
  | .mbc1 m => m.romBank
  | .mbc3 m => m.bank7.toNat
  | .mbc5 m => m.bank9.toNat

/-- The offset into the ROM image of address `a` in 0000-7FFF (20_memory.md R103, R107, R110,
R114). A ROM-only cartridge maps the address directly (R103). -/
def Cart.romOffset (c : Cart) (a : Nat) : Nat :=
  match c.mbc with
  | .romOnly => a
  | m => if a < 0x4000 then c.romAt 0 a else c.romAt m.romBank (a - 0x4000)

/-- The external RAM bank that A000-BFFF reaches, if any: the enable gate (R115) and, on MBC3, the
select register (R110) close it. -/
def Mbc.ramBank? : Mbc → Option Nat
  | .romOnly => some 0
  | .mbc1 m => if m.ramEnabled then some m.ramBank else none
  | .mbc3 m => if m.ramEnabled && decide (m.sel.toNat ≤ 3) then some m.sel.toNat else none
  | .mbc5 m => if m.ramEnabled then some m.rbank4.toNat else none

/-- The offset into ERAM of the byte `off` of A000-BFFF, if it reaches any (20_memory.md R103, R104,
R106-R114). -/
def Cart.ramOffset? (c : Cart) (off : Nat) : Option Nat :=
  if c.ramSize = 0 then none else c.mbc.ramBank?.map fun rbank => c.ramAt rbank off

/-- The RAM-enable gate: a write of `v` to 0000-1FFF (20_memory.md R115). -/
def ramGate (v : Byte) : Bool := decide (v &&& 0x0F#8 = 0x0A#8)

/-- MBC1: a write of `v` to `a` in 0000-7FFF (20_memory.md R106). -/
def Mbc1.write (m : Mbc1) (a : Nat) (v : Byte) : Mbc1 :=
  if a < 0x2000 then { m with ramEnabled := ramGate v }
  else if a < 0x4000 then { m with bank5 := if v.setWidth 5 = 0#5 then 1#5 else v.setWidth 5 }
  else if a < 0x6000 then { m with bank2 := v.setWidth 2 }
  else { m with mode := v.setWidth 1 }

/-- MBC3: a write of `v` to `a` in 0000-7FFF (20_memory.md R109). -/
def Mbc3.write (m : Mbc3) (a : Nat) (v : Byte) : Mbc3 :=
  if a < 0x2000 then { m with ramEnabled := ramGate v }
  else if a < 0x4000 then { m with bank7 := if v.setWidth 7 = 0#7 then 1#7 else v.setWidth 7 }
  else if a < 0x6000 then { m with sel := v }
  else m

/-- MBC5: a write of `v` to `a` in 0000-7FFF (20_memory.md R113). -/
def Mbc5.write (m : Mbc5) (a : Nat) (v : Byte) : Mbc5 :=
  if a < 0x2000 then { m with ramEnabled := ramGate v }
  else if a < 0x3000 then { m with bank9 := m.bank9.extractLsb' 8 1 ++ v }
  else if a < 0x4000 then { m with bank9 := v.setWidth 1 ++ m.bank9.setWidth 8 }
  else if a < 0x6000 then { m with rbank4 := v.setWidth 4 }
  else m

/-- `cart_write(a, v)` for `a` in 0000-7FFF: the ROM bytes never change (20_memory.md R71, R103,
R104, R106, R109, R113). -/
def Mbc.write (m : Mbc) (a : Nat) (v : Byte) : Mbc :=
  match m with
  | .romOnly => .romOnly
  | .mbc1 m => .mbc1 (m.write a v)
  | .mbc3 m => .mbc3 (m.write a v)
  | .mbc5 m => .mbc5 (m.write a v)

end Sys2Proof.Machine
end

