-- ==== Sys2Proof/Machine/Joypad.lean ====
section
/-! DEFINITION. The joypad register and its lines (10_state.md R39, R40; 60_exceptions.md R345). -/

namespace Sys2Proof.Machine

/-- Whether the direction group is selected: P1 bit 4 is 0. -/
def Joypad.directions (j : Joypad) : Bool := !j.sel.getLsbD 0

/-- Whether the action group is selected: P1 bit 5 is 0. -/
def Joypad.actions (j : Joypad) : Bool := !j.sel.getLsbD 1

/-- A line is low (0) iff a button mapped to it in a selected group is pressed: `dir` of the
direction group, `act` of the action group. -/
def Joypad.line (j : Joypad) (dir act : Bool) : Bool := !((j.directions && dir) || (j.actions && act))

/-- `joy_lines()`: Right/A, Left/B, Up/Select, Down/Start on lines 0 to 3. -/
def Joypad.lines (j : Joypad) : BitVec 4 :=
  bit (j.line j.pressed.down j.pressed.start) ++ bit (j.line j.pressed.up j.pressed.select) ++
    bit (j.line j.pressed.left j.pressed.b) ++ bit (j.line j.pressed.right j.pressed.a)

/-- The read value of P1. -/
def Joypad.read (j : Joypad) : Byte := 0b11#2 ++ j.sel ++ j.lines

/-- A CPU write of `v` to P1 stores `v[5:4]`. -/
def Joypad.write (j : Joypad) (v : Byte) : Joypad := { j with sel := v.extractLsb' 4 2 }

/-- Press or release button `i` (10_state.md R40). -/
def Buttons.set (p : Buttons) (i : Fin 8) (v : Bool) : Buttons :=
  match i with
  | 0 => { p with down := v }
  | 1 => { p with up := v }
  | 2 => { p with left := v }
  | 3 => { p with right := v }
  | 4 => { p with a := v }
  | 5 => { p with b := v }
  | 6 => { p with select := v }
  | 7 => { p with start := v }

/-- The edge detector: some line went from 1 to 0. -/
def linesFell (before after : BitVec 4) : Bool := decide (before &&& ~~~after ≠ 0#4)

end Sys2Proof.Machine
end

