-- ==== Sys2Proof/Machine/Ppu.lean ====
section
/-! DEFINITION. The PPU's registers, LY compare, combined STAT line and LCD switch (10_state.md
R41-R50; 60_exceptions.md R352, R353, R360), on the PPU alone. The dot clock, which also renders, is
in Machine/Clock.lean. -/

namespace Sys2Proof.Machine

/-- STAT bits 1-0 (10_state.md R42). -/
def Mode.bits : Mode → BitVec 2
  | .hblank => 0
  | .vblank => 1
  | .oamScan => 2
  | .transfer => 3

/-- LCDC bit 7, LCD enable (10_state.md R41). -/
def Ppu.lcdOn (p : Ppu) : Bool := p.lcdc.getLsbD 7

/-- The read value of STAT (10_state.md R42). -/
def Ppu.readStat (p : Ppu) : Byte := 1#1 ++ p.statEn ++ bit p.coincidence ++ p.mode.bits

/-- `compare_ly()` (60_exceptions.md R352). -/
def Ppu.compareLy (p : Ppu) : Ppu := { p with coincidence := decide (p.ly = p.lyc) }

/-- `stat_value()` (60_exceptions.md R353). `statEn` bits 3, 0, 1, 2 are STAT bits 6, 3, 4, 5. -/
def Ppu.statValue (p : Ppu) : Bool :=
  p.lcdOn && ((p.statEn.getLsbD 3 && p.coincidence)
    || (p.statEn.getLsbD 0 && decide (p.mode = .hblank))
    || (p.statEn.getLsbD 1 && decide (p.mode = .vblank))
    || (p.statEn.getLsbD 2 && decide (p.mode = .oamScan)))

/-- The rising edge of the combined line that `update_stat()` looks for (60_exceptions.md R353). -/
def Ppu.statRises (p : Ppu) : Bool := p.statValue && !p.statLine

/-- `update_stat()` but for the request (60_exceptions.md R353). -/
def Ppu.latchStat (p : Ppu) : Ppu := { p with statLine := p.statValue }

/-- A write of `v` to LCDC, up to its `update_stat()` (60_exceptions.md R360). -/
def Ppu.writeLcdc (p : Ppu) (v : Byte) : Ppu :=
  let q := { p with lcdc := v }
  if p.lcdOn && !q.lcdOn then
    { q with ly := 0, dot := 0, mode := .hblank, fbIndex := [], fbShade := [] }.compareLy
  else if !p.lcdOn && q.lcdOn then
    { q with ly := 0, dot := 0, mode := .oamScan, windowLine := 0 }.compareLy
  else q

/-- A write of `v` to STAT, up to its `update_stat()`: bits 6-3 only (10_state.md R42). -/
def Ppu.writeStat (p : Ppu) (v : Byte) : Ppu := { p with statEn := v.extractLsb' 3 4 }

/-- A write of `v` to LYC, up to its `update_stat()` (10_state.md R45, 60_exceptions.md R352). -/
def Ppu.writeLyc (p : Ppu) (v : Byte) : Ppu := { p with lyc := v }.compareLy

/-- The position after one dot: the dot, the line and what a new line resets (60_exceptions.md
R350). -/
def Ppu.advanceDot (p : Ppu) : Ppu :=
  if p.dot + 1 = 456 then
    let ly := BitVec.ofNat 8 ((p.ly.toNat + 1) % 154)
    { p with dot := 0, ly := ly, windowLine := if ly = 0#8 then 0 else p.windowLine }.compareLy
  else { p with dot := p.dot + 1 }

end Sys2Proof.Machine
end

