-- ==== Sys2Proof/Machine/Timer.lean ====
section
/-! DEFINITION. The timer (60_exceptions.md R330-R334; 10_state.md R34-R38). -/

namespace Sys2Proof.Machine

/-- The counter bit that TAC bits 1-0 select (60_exceptions.md R334). -/
def Timer.selectedBit (t : Timer) : Nat :=
  if t.tac.getLsbD 1 then (if t.tac.getLsbD 0 then 7 else 5) else (if t.tac.getLsbD 0 then 3 else 9)

/-- `timer_signal()` (60_exceptions.md R334). -/
def Timer.signal (t : Timer) : Bool := t.tac.getLsbD 2 && t.tcount.getLsbD t.selectedBit

/-- `tima_increment()` (60_exceptions.md R331). -/
def Timer.increment (t : Timer) : Timer :=
  if t.tima = 0xFF#8 then { t with tima := 0x00#8, reloadCnt := 4 } else { t with tima := t.tima + 1#8 }

/-- The falling edge of the input signal: from `old`, what it was, to what `t` makes it. -/
def Timer.edge (old : Bool) (t : Timer) : Timer := if old && !t.signal then t.increment else t

/-- One T-cycle of the reload window: at its end TIMA takes TMA (60_exceptions.md R330). -/
def Timer.countReload (t : Timer) : Timer :=
  match t.reloadCnt with
  | 0 => t
  | 1 => { t with reloadCnt := 0, tima := t.tma }
  | k + 2 => { t with reloadCnt := k + 1 }

/-- Whether the next T-cycle reloads TIMA and so requests the timer interrupt (60_exceptions.md
R330). -/
def Timer.reloads (t : Timer) : Bool := decide (t.reloadCnt = 1)

/-- `timer_tick()` but for the request (60_exceptions.md R330). -/
def Timer.tick (t : Timer) : Timer :=
  Timer.edge t.signal (Timer.countReload { t with tcount := t.tcount + 1#16 })

/-- What a DIV write and STOP do (60_exceptions.md R332). -/
def Timer.resetCounter (t : Timer) : Timer := Timer.edge t.signal { t with tcount := 0#16 }

/-- A write of `v` to TAC (60_exceptions.md R332). -/
def Timer.writeTac (t : Timer) (v : Byte) : Timer := Timer.edge t.signal { t with tac := v.setWidth 3 }

/-- A write of `v` to TIMA: it cancels a pending reload (60_exceptions.md R333). -/
def Timer.writeTima (t : Timer) (v : Byte) : Timer := { t with tima := v, reloadCnt := 0 }

/-- A write of `v` to TMA (60_exceptions.md R333). -/
def Timer.writeTma (t : Timer) (v : Byte) : Timer := { t with tma := v }

/-- The read value of DIV (10_state.md R35). -/
def Timer.readDiv (t : Timer) : Byte := hi t.tcount

/-- The read value of TAC: unused bits read 1 (10_state.md R38). -/
def Timer.readTac (t : Timer) : Byte := 0b11111#5 ++ t.tac

end Sys2Proof.Machine
end

