-- ==== Sys2Proof/Machine/Ops.lean ====
section
/-! DEFINITION. The named operations every meaning is written with: registers, interrupt requests,
the CPU bus (20_memory.md R70-R83), the stack, the instruction fetch, and the machine's two
exceptions (60_exceptions.md R323, 45_system.md R300) with the return from one. -/

namespace Sys2Proof.Machine

/-- What a meaning answers. -/
abbrev Result := Host.Outcome State Fault Refusal

/-! ## Registers -/

/-- `x[r]` (00_scope.md R11). -/
def State.reg8 (s : State) : Reg8 → Byte
  | .b => s.cpu.b
  | .c => s.cpu.c
  | .d => s.cpu.d
  | .e => s.cpu.e
  | .h => s.cpu.h
  | .l => s.cpu.l
  | .a => s.cpu.a

/-- `x[r] <- v` (00_scope.md R11). -/
def State.setReg8 (s : State) (r : Reg8) (v : Byte) : State :=
  match r with
  | .b => { s with cpu.b := v }
  | .c => { s with cpu.c := v }
  | .d => { s with cpu.d := v }
  | .e => { s with cpu.e := v }
  | .h => { s with cpu.h := v }
  | .l => { s with cpu.l := v }
  | .a => { s with cpu.a := v }

/-- `x[BC]`. -/
def State.bc (s : State) : Word := pair s.cpu.b s.cpu.c

/-- `x[DE]`. -/
def State.de (s : State) : Word := pair s.cpu.d s.cpu.e

/-- `x[HL]`. -/
def State.hl (s : State) : Word := pair s.cpu.h s.cpu.l

/-- `x[BC] <- v`. -/
def State.setBc (s : State) (v : Word) : State := { s with cpu.b := hi v, cpu.c := lo v }

/-- `x[DE] <- v`. -/
def State.setDe (s : State) (v : Word) : State := { s with cpu.d := hi v, cpu.e := lo v }

/-- `x[HL] <- v`. -/
def State.setHl (s : State) (v : Word) : State := { s with cpu.h := hi v, cpu.l := lo v }

/-- `SP <- v`. -/
def State.setSp (s : State) (v : Word) : State := { s with cpu.sp := v }

/-- `PC <- v`. -/
def State.setPc (s : State) (v : Word) : State := { s with cpu.pc := v }

/-- `x[A] <- v`. -/
def State.setA (s : State) (v : Byte) : State := { s with cpu.a := v }

/-- `F <- v & 0xF0`, the one way F is written as a whole byte (10_state.md R23). -/
def State.setF (s : State) (v : Byte) : State := { s with cpu.f := v &&& 0xF0#8 }

/-- `cost t` (00_scope.md R11). -/
def State.charge (s : State) (t : Nat) : State := { s with cpu.stepCost := t }

/-! ## Interrupt requests -/

/-- `request(n)`: set IF bit n, never clear one (60_exceptions.md R320). -/
def State.request (s : State) (n : Nat) : State := { s with irq.ifl := s.irq.ifl ||| (1#5 <<< n) }

/-- `request(n)` if `b`. -/
def State.requestIf (s : State) (b : Bool) (n : Nat) : State := if b then s.request n else s

/-- `IE & IF & 0x1F`, the pending lines (60_exceptions.md R322). -/
def State.pending (s : State) : BitVec 5 := s.irq.ie.setWidth 5 &&& s.irq.ifl

/-- `update_stat()` (60_exceptions.md R353). -/
def State.updateStat (s : State) : State :=
  { s with ppu := s.ppu.latchStat }.requestIf s.ppu.statRises 1

/-! ## The CPU bus -/

/-- The registers of the I/O map (10_state.md R57), IE apart. -/
inductive IoReg where
  | p1 | sb | sc | div | tima | tma | tac | ifl
  | lcdc | stat | scy | scx | ly | lyc | dma | bgp | obp0 | obp1 | wy | wx
deriving DecidableEq, Repr

/-- The register at `a` in FF00-FF7F; none at an unmapped address (10_state.md R57, 20_memory.md
R83). -/
def ioReg? : Nat → Option IoReg
  | 0xFF00 => some .p1
  | 0xFF01 => some .sb
  | 0xFF02 => some .sc
  | 0xFF04 => some .div
  | 0xFF05 => some .tima
  | 0xFF06 => some .tma
  | 0xFF07 => some .tac
  | 0xFF0F => some .ifl
  | 0xFF40 => some .lcdc
  | 0xFF41 => some .stat
  | 0xFF42 => some .scy
  | 0xFF43 => some .scx
  | 0xFF44 => some .ly
  | 0xFF45 => some .lyc
  | 0xFF46 => some .dma
  | 0xFF47 => some .bgp
  | 0xFF48 => some .obp0
  | 0xFF49 => some .obp1
  | 0xFF4A => some .wy
  | 0xFF4B => some .wx
  | _ => none

/-- The device an address decodes to, with the offset into it (20_memory.md R70). -/
inductive Region where
  | cartRom (a : Nat)
  | vram (off : Nat)
  | cartRam (off : Nat)
  | wram (off : Nat)
  | oam (off : Nat)
  | unusable
  | io (r : Option IoReg)
  | hram (off : Nat)
  | ie
deriving DecidableEq, Repr

/-- The single decode table (20_memory.md R70, R73, R74). -/
def decodeAddr (addr : Word) : Region :=
  let a := addr.toNat
  if a < 0x8000 then .cartRom a
  else if a < 0xA000 then .vram (a - 0x8000)
  else if a < 0xC000 then .cartRam (a - 0xA000)
  else if a < 0xE000 then .wram (a - 0xC000)
  else if a < 0xFE00 then .wram (a - 0xE000)
  else if a < 0xFEA0 then .oam (a - 0xFE00)
  else if a < 0xFF00 then .unusable
  else if a < 0xFF80 then .io (ioReg? a)
  else if a < 0xFFFF then .hram (a - 0xFF80)
  else .ie

/-- The read value of a register (10_state.md R57). -/
def State.readIo (s : State) : IoReg → Byte
  | .p1 => s.joypad.read
  | .sb => s.serial.sb
  | .sc => 0x7E#8 ||| (s.serial.sc &&& 0x81#8)
  | .div => s.timer.readDiv
  | .tima => s.timer.tima
  | .tma => s.timer.tma
  | .tac => s.timer.readTac
  | .ifl => 0b111#3 ++ s.irq.ifl
  | .lcdc => s.ppu.lcdc
  | .stat => s.ppu.readStat
  | .scy => s.ppu.scy
  | .scx => s.ppu.scx
  | .ly => s.ppu.ly
  | .lyc => s.ppu.lyc
  | .dma => s.dma.reg
  | .bgp => s.ppu.bgp
  | .obp0 => s.ppu.obp0
  | .obp1 => s.ppu.obp1
  | .wy => s.ppu.wy
  | .wx => s.ppu.wx

/-- The read decoder without the DMA block, `read_nodma` (20_memory.md R70, R90). -/
def State.busRead (s : State) (addr : Word) : Byte :=
  match decodeAddr addr with
  | .cartRom a => s.cart.rom.read (s.cart.romOffset a)
  | .vram off => s.vram.read off
  | .cartRam off =>
    match s.cart.ramOffset? off with
    | some k => s.cart.eram.read k
    | none => 0xFF#8
  | .wram off => s.wram.read off
  | .oam off => s.oam.read off
  | .unusable => 0xFF#8
  | .io (some r) => s.readIo r
  | .io none => 0xFF#8
  | .hram off => s.hram.read off
  | .ie => s.irq.ie

/-- A joypad event: whatever changes the lines, with the edge detector around it (60_exceptions.md
R345). -/
def State.joypadEvent (s : State) (j : Joypad) : State :=
  { s with joypad := j }.requestIf (linesFell s.joypad.lines j.lines) 4

/-- A CPU write of `v` to FF46 (60_exceptions.md R340). -/
def State.startDma (s : State) (v : Byte) : State :=
  { s with dma := { reg := v, active := true, src := v, t := 0 } }

/-- A CPU write of `v` to a register, with its side effects (20_memory.md R79 and each register's
rule in 10_state.md). -/
def State.writeIo (s : State) (r : IoReg) (v : Byte) : State :=
  match r with
  | .p1 => s.joypadEvent (s.joypad.write v)
  | .sb => { s with serial.sb := v }
  | .sc => { s with serial.sc := v &&& 0x81#8 }
  | .div => { s with timer := s.timer.resetCounter }
  | .tima => { s with timer := s.timer.writeTima v }
  | .tma => { s with timer := s.timer.writeTma v }
  | .tac => { s with timer := s.timer.writeTac v }
  | .ifl => { s with irq.ifl := v.setWidth 5 }
  | .lcdc => { s with ppu := s.ppu.writeLcdc v }.updateStat
  | .stat => { s with ppu := s.ppu.writeStat v }.updateStat
  | .scy => { s with ppu.scy := v }
  | .scx => { s with ppu.scx := v }
  | .ly => s
  | .lyc => { s with ppu := s.ppu.writeLyc v }.updateStat
  | .dma => s.startDma v
  | .bgp => { s with ppu.bgp := v }
  | .obp0 => { s with ppu.obp0 := v }
  | .obp1 => { s with ppu.obp1 := v }
  | .wy => { s with ppu.wy := v }
  | .wx => { s with ppu.wx := v }

/-- The write decoder without the DMA block (20_memory.md R71). -/
def State.busWrite (s : State) (addr : Word) (v : Byte) : State :=
  match decodeAddr addr with
  | .cartRom a => { s with cart.mbc := s.cart.mbc.write a v }
  | .vram off => { s with vram := s.vram.write off v }
  | .cartRam off =>
    match s.cart.ramOffset? off with
    | some k => { s with cart.eram := s.cart.eram.write k v }
    | none => s
  | .wram off => { s with wram := s.wram.write off v }
  | .oam off => { s with oam := s.oam.write off v }
  | .unusable => s
  | .io (some r) => s.writeIo r v
  | .io none => s
  | .hram off => { s with hram := s.hram.write off v }
  | .ie => { s with irq.ie := v }

/-- What the DMA block leaves open: FF80-FFFE and FF46 (20_memory.md R72). -/
def dmaReaches (addr : Word) : Bool :=
  (decide (0xFF80 ≤ addr.toNat) && decide (addr.toNat ≤ 0xFFFE)) || decide (addr.toNat = 0xFF46)

/-- Whether a CPU access of `addr` is blocked (20_memory.md R72). -/
def State.blocked (s : State) (addr : Word) : Bool := s.dma.active && !dmaReaches addr

/-- `MemRead(addr, 1)` (20_memory.md R70, R72). -/
def State.memRead (s : State) (addr : Word) : Byte :=
  if s.blocked addr then 0xFF#8 else s.busRead addr

/-- `MemWrite(addr, 1, v)` (20_memory.md R71, R72). -/
def State.memWrite (s : State) (addr : Word) (v : Byte) : State :=
  if s.blocked addr then s else s.busWrite addr v

/-- `MemRead(addr, 2)`: the low byte first (20_memory.md R75). -/
def State.memRead16 (s : State) (addr : Word) : Word :=
  pair (s.memRead (addr + 1#16)) (s.memRead addr)

/-- `MemWrite(addr, 2, v)`: the low byte first (20_memory.md R75). -/
def State.memWrite16 (s : State) (addr v : Word) : State :=
  (s.memWrite addr (lo v)).memWrite (addr + 1#16) (hi v)

/-! ## The stack -/

/-- One byte pushed: SP is decremented before it is written (40_load.md R190). -/
def State.pushByte (s : State) (v : Byte) : State :=
  let s := s.setSp (s.cpu.sp - 1#16)
  s.memWrite s.cpu.sp v

/-- `push16(v)`: the high byte first (40_load.md R190). -/
def State.push16 (s : State) (v : Word) : State := (s.pushByte (hi v)).pushByte (lo v)

/-- The value `pop16()` returns (40_load.md R190). -/
def State.top16 (s : State) : Word := s.memRead16 s.cpu.sp

/-- What `pop16()` does to the state: SP moves up by two (40_load.md R190). -/
def State.drop16 (s : State) : State := s.setSp (s.cpu.sp + 2#16)

/-! ## The instruction fetch -/

/-- `fetch8()` (30_encoding.md R131). DEDUCED: with the HALT bug set it leaves PC for every byte, an
unused opcode too, where 30_encoding.md R142 and 45_system.md R300 say that PC has advanced past the
byte (log entry 17). -/
def State.fetch8 (s : State) : Byte × State :=
  let b := s.memRead s.cpu.pc
  if s.cpu.haltBug then (b, { s with cpu.haltBug := false }) else (b, s.setPc (s.cpu.pc + 1#16))

/-- Fetch and decode one instruction (30_encoding.md R138): its bytes one by one, as many as its
first byte says (R130). The address of the first is kept for the illegal opcode. -/
def State.fetchInstr (s : State) : Instr × State :=
  let s := { s with cpu.opAddr := s.cpu.pc }
  let (b0, s) := s.fetch8
  match instrLength b0 with
  | 1 => (decodeBytes b0 0 0, s)
  | 2 =>
    let (b1, s) := s.fetch8
    (decodeBytes b0 b1 0, s)
  | _ =>
    let (b1, s) := s.fetch8
    let (b2, s) := s.fetch8
    (decodeBytes b0 b1 b2, s)

/-! ## Exceptions -/

/-- The lowest set bit of the pending lines: the highest-priority line (60_exceptions.md R321,
R323). -/
def lowestLine (p : BitVec 5) : Nat :=
  if p.getLsbD 0 then 0 else if p.getLsbD 1 then 1 else if p.getLsbD 2 then 2
  else if p.getLsbD 3 then 3 else 4

/-- The vector of line n, `0x0040 + 8n` (60_exceptions.md R321). -/
def vector (n : Nat) : Word := BitVec.ofNat 16 (0x0040 + 8 * n)

/-- The address an interrupt service pushes: PC, or the HALT itself while the HALT bug is set
(60_exceptions.md R323). -/
def State.returnAddress (s : State) : Word :=
  if s.cpu.haltBug then s.cpu.pc - 1#16 else s.cpu.pc

/-- `service_interrupt()`: the machine's one trap entry (60_exceptions.md R323). DEDUCED: it also clears
`ei_pending`, which R323 does not list, so that an EI executed with IME = 1 changes nothing observable
(45_system.md R295) and no handler is interrupted before its own EI or RETI (R326); log entry 16. -/
def State.serviceInterrupt (s : State) : State :=
  let n := lowestLine s.pending
  let ret := s.returnAddress
  let s := { s with
    cpu.ime := false
    cpu.eiPending := false
    cpu.haltBug := false
    irq.ifl := s.irq.ifl &&& ~~~(1#5 <<< n) }
  ((s.push16 ret).setPc (vector n)).charge 20

/-- Return through the stack, `PC <- pop16()` (44_control.md R278). -/
def State.returnFromCall (s : State) : State := (s.drop16).setPc s.top16

/-- The return from an interrupt: `PC <- pop16(); IME <- 1` (44_control.md R280). -/
def State.returnFromInterrupt (s : State) : State := { s.returnFromCall with cpu.ime := true }

/-- `raise IllegalOpcode(pc0, op)`: record the fault; no time passes (45_system.md R300). PC stays where
the fetch left it (log entry 17). -/
def State.raiseIllegal (s : State) (op : Byte) : State :=
  { s with cpu.fault := some (.illegalOpcode s.cpu.opAddr op) }.charge 0

end Sys2Proof.Machine
end

