-- ==== Sys2Proof/Machine/Render.lean ====
section
/-! DEFINITION. The scanline renderer (60_exceptions.md R370-R376; formats in 10_state.md R54, R55). -/

namespace Sys2Proof.Machine

/-- Bit `n` of LCDC (10_state.md R41). -/
def Ppu.lcdcBit (p : Ppu) (n : Nat) : Bool := p.lcdc.getLsbD n

/-- VRAM by CPU address (10_state.md R53). -/
def State.vramAt (s : State) (addr : Nat) : Byte := s.vram.read (addr - 0x8000)

/-- Byte `j` of sprite `k`: 0 Y, 1 X, 2 tile, 3 attributes (10_state.md R54). -/
def State.oamByte (s : State) (k j : Nat) : Byte := s.oam.read (4 * k + j)

/-- The sprite height (60_exceptions.md R371). -/
def Ppu.objHeight (p : Ppu) : Nat := if p.lcdcBit 2 then 16 else 8

/-- Whether sprite `k` covers line `ly`: `Y - 16 ≤ ly < Y - 16 + h` (60_exceptions.md R371). -/
def State.spriteOnLine (s : State) (ly k : Nat) : Bool :=
  let y := (s.oamByte k 0).toNat
  decide (y ≤ ly + 16) && decide (ly + 16 < y + s.ppu.objHeight)

/-- `select_sprites(ly)`: the first ten in OAM index order (60_exceptions.md R371). -/
def State.selectSprites (s : State) (ly : Nat) : List Nat :=
  ((List.range 40).filter (s.spriteOnLine ly)).take 10

/-- `tile_pixel(addr, col, row)` (60_exceptions.md R373). -/
def State.tilePixel (s : State) (addr col row : Nat) : BitVec 2 :=
  bit ((s.vramAt (addr + 2 * row + 1)).getLsbD (7 - col)) ++
    bit ((s.vramAt (addr + 2 * row)).getLsbD (7 - col))

/-- `bgw_tile(t)`: unsigned from 0x8000, or signed from 0x9000 (60_exceptions.md R373). -/
def Ppu.bgwTile (p : Ppu) (t : Byte) : Nat :=
  if p.lcdcBit 4 then 0x8000 + 16 * t.toNat else (0x9000 + 16 * t.toInt).toNat

/-- The base of the tile map that a select bit names (10_state.md R41). -/
def mapBase (select : Bool) : Nat := if select then 0x9C00 else 0x9800

/-- The colour index at (x, y) of a 256x256 layer drawn from the map at `base`. -/
def State.layerPixel (s : State) (base x y : Nat) : BitVec 2 :=
  s.tilePixel (s.ppu.bgwTile (s.vramAt (base + 32 * (y / 8) + x / 8))) (x % 8) (y % 8)

/-- `bg_index(x, ly)` (60_exceptions.md R372). -/
def State.bgIndex (s : State) (x ly : Nat) : BitVec 2 :=
  if s.ppu.lcdcBit 0 then
    s.layerPixel (mapBase (s.ppu.lcdcBit 3)) ((s.ppu.scx.toNat + x) % 256)
      ((s.ppu.scy.toNat + ly) % 256)
  else 0#2

/-- Whether the window covers (x, ly): enabled, `WY ≤ ly` and `WX - 7 ≤ x` (60_exceptions.md
R374). -/
def State.windowCovers (s : State) (x ly : Nat) : Bool :=
  s.ppu.lcdcBit 5 && s.ppu.lcdcBit 0 && decide (s.ppu.wy.toNat ≤ ly) &&
    decide (s.ppu.wx.toNat ≤ x + 7)

/-- `bg_or_window_index(x, ly)` without its second component, which is `windowCovers`
(60_exceptions.md R374). -/
def State.bgOrWindow (s : State) (x ly : Nat) : BitVec 2 :=
  if s.windowCovers x ly then
    s.layerPixel (mapBase (s.ppu.lcdcBit 6)) (x + 7 - s.ppu.wx.toNat) s.ppu.windowLine
  else s.bgIndex x ly

/-- A sprite's pixel at one place: its X, its OAM index, its colour index and its attributes. -/
structure SpritePixel where
  x : Nat
  k : Nat
  p : BitVec 2
  attr : Byte
deriving DecidableEq, Repr

/-- The pixel that sprite `k` puts at (x, ly), if it covers `x` and is not transparent there
(60_exceptions.md R375). -/
def State.spriteAt (s : State) (x ly k : Nat) : Option SpritePixel :=
  let sy := (s.oamByte k 0).toNat
  let sx := (s.oamByte k 1).toNat
  let tile := s.oamByte k 2
  let attr := s.oamByte k 3
  if sx ≤ x + 8 ∧ x < sx then
    let h := s.ppu.objHeight
    let col := if attr.getLsbD 5 then 7 - (x + 8 - sx) else x + 8 - sx
    let row := if attr.getLsbD 6 then h - 1 - (ly + 16 - sy) else ly + 16 - sy
    let tile :=
      if h = 16 then (if row < 8 then tile &&& 0xFE#8 else tile ||| 0x01#8) else tile
    let p := s.tilePixel (0x8000 + 16 * tile.toNat) col (if h = 16 then row % 8 else row)
    if p = 0#2 then none else some { x := sx, k, p, attr }
  else none

/-- `(X, k)` in lexicographic order: the smaller X, then the smaller index (60_exceptions.md
R375). -/
def SpritePixel.beats (p q : SpritePixel) : Bool :=
  decide (p.x < q.x) || (decide (p.x = q.x) && decide (p.k < q.k))

/-- The winner among the pixel found so far and a new one. -/
def bestSprite (best new : Option SpritePixel) : Option SpritePixel :=
  match best, new with
  | none, new => new
  | best, none => best
  | some b, some n => if n.beats b then some n else some b

/-- `sprite_pixel(x, ly)` among the selected sprites (60_exceptions.md R375). -/
def State.spritePixel (s : State) (sprites : List Nat) (x ly : Nat) : Option SpritePixel :=
  if s.ppu.lcdcBit 1 then
    sprites.foldl (fun best k => bestSprite best (s.spriteAt x ly k)) none
  else none

/-- The shade of colour index `i` in a palette: bits `[2i+1:2i]` (10_state.md R47). -/
def shade (palette : Byte) (i : BitVec 2) : BitVec 2 := palette.extractLsb' (2 * i.toNat) 2

/-- `mix(b, s)`: the index and the shade (60_exceptions.md R376). -/
def Ppu.mix (p : Ppu) (b : BitVec 2) (s : Option SpritePixel) : BitVec 2 × BitVec 2 :=
  match s with
  | none => (b, shade p.bgp b)
  | some q =>
    if q.attr.getLsbD 7 && decide (b ≠ 0#2) then (b, shade p.bgp b)
    else (q.p, shade (if q.attr.getLsbD 4 then p.obp1 else p.obp0) q.p)

/-- The pixel at (x, ly), given the selected sprites (60_exceptions.md R370). -/
def State.pixel (s : State) (sprites : List Nat) (x ly : Nat) : BitVec 2 × BitVec 2 :=
  s.ppu.mix (s.bgOrWindow x ly) (s.spritePixel sprites x ly)

/-- Whether some pixel of line `ly` comes from the window (60_exceptions.md R370). -/
def State.drewWindow (s : State) (ly : Nat) : Bool :=
  (List.range 160).any fun x => s.windowCovers x ly

/-- `render_line(ly)` (60_exceptions.md R370): the whole line from the state at this instant. -/
def State.renderLine (s : State) (ly : Nat) : State :=
  let sprites := s.selectSprites ly
  let row := (List.range 160).map fun x => s.pixel sprites x ly
  { s with
    ppu.lineSprites := sprites
    ppu.windowLine := if s.drewWindow ly then (s.ppu.windowLine + 1) % 256 else s.ppu.windowLine
    ppu.fbIndex := s.ppu.fbIndex.writeRow (160 * ly) (row.map Prod.fst)
    ppu.fbShade := s.ppu.fbShade.writeRow (160 * ly) (row.map Prod.snd) }

end Sys2Proof.Machine
end

