-- ==== Sys2Proof/Machine/Clock.lean ====
section
/-! DEFINITION. The peripherals' clock: one T-cycle of the timer, the PPU and the DMA engine
(60_exceptions.md R313, R330, R341, R350, R351). -/

namespace Sys2Proof.Machine

/-- `timer_tick()` with its request (60_exceptions.md R330). -/
def State.timerTick (s : State) : State :=
  { s with timer := s.timer.tick }.requestIf s.timer.reloads 2

/-- `ppu_events()`: what happens on arriving at (LY, dot) (60_exceptions.md R351). -/
def State.ppuEvents (s : State) : State :=
  let ly := s.ppu.ly.toNat
  if ly < 144 then
    match s.ppu.dot with
    | 0 => { s with ppu.mode := .oamScan }
    | 80 => { s with ppu.mode := .transfer }.renderLine ly
    | d => if d = 80 + Config.t3 then { s with ppu.mode := .hblank } else s
  else if ly = 144 ∧ s.ppu.dot = 0 then { s with ppu.mode := .vblank }.request 0
  else s

/-- `ppu_tick()` (60_exceptions.md R350). The STAT line is evaluated once, at the end of the dot (log
entry 9). -/
def State.ppuTick (s : State) : State :=
  if s.ppu.lcdOn then ({ s with ppu := s.ppu.advanceDot }.ppuEvents).updateStat else s

/-- `dma_tick()` (60_exceptions.md R341). -/
def State.dmaTick (s : State) : State :=
  if s.dma.active then
    let t := s.dma.t + 1
    if t % 4 = 0 then
      let i := t / 4 - 1
      let v := s.busRead (s.dma.src ++ BitVec.ofNat 8 i)
      { s with oam := s.oam.write i v, dma.t := t, dma.active := decide (i ≠ 159) }
    else { s with dma.t := t }
  else s

/-- One T-cycle of every peripheral, in the order timer, PPU, DMA (60_exceptions.md R313). -/
def State.tick (s : State) : State := ((s.timerTick).ppuTick).dmaTick

/-- `n` T-cycles of every peripheral (60_exceptions.md R313). -/
def State.advance : Nat → State → State
  | 0, s => s
  | n + 1, s => State.advance n s.tick

/-- Whether a state stands where the VBlank event of R351 has just happened. -/
def State.atVblank (s : State) : Bool :=
  s.ppu.lcdOn && decide (s.ppu.ly = 144#8) && decide (s.ppu.dot = 0)

/-- Whether the VBlank event happens within `n` T-cycles (60_exceptions.md R397). -/
def State.vblankWithin : Nat → State → Bool
  | 0, _ => false
  | n + 1, s => s.tick.atVblank || State.vblankWithin n s.tick

end Sys2Proof.Machine
end

