-- ==== Sys2Proof/Machine/Flags.lean ====
section
/-! DEFINITION. The flag register's bits (10_state.md R22, R23) and every flag computation of the
instruction rules (41_alu8.md, 42_alu16.md, 43_bitops.md), on unbounded integers as they state it. -/

namespace Sys2Proof.Machine

/-- `F.Z`, bit 7. -/
def State.flagZ (s : State) : Bool := s.cpu.f.getLsbD 7

/-- `F.N`, bit 6. -/
def State.flagN (s : State) : Bool := s.cpu.f.getLsbD 6

/-- `F.H`, bit 5. -/
def State.flagH (s : State) : Bool := s.cpu.f.getLsbD 5

/-- `F.C`, bit 4. -/
def State.flagC (s : State) : Bool := s.cpu.f.getLsbD 4

/-- F's byte with the four flags: a flag write changes only bits 7-4 (10_state.md R23). -/
def packFlags (f : Byte) (z n h c : Bool) : Byte := bit z ++ bit n ++ bit h ++ bit c ++ f.setWidth 4

/-- Write the four flags. -/
def State.setFlags (s : State) (z n h c : Bool) : State :=
  { s with cpu.f := packFlags s.cpu.f z n h c }

/-- A result's Z flag. -/
def isZero (v : Byte) : Bool := decide (v = 0#8)

/-- The H flag of `a + s + c` (41_alu8.md R200, R201). -/
def halfCarry (a s : Byte) (c : Bool) : Bool := decide (a.toNat % 16 + s.toNat % 16 + c.toNat > 0xF)

/-- The C flag of `a + s + c` (41_alu8.md R200, R201). -/
def carry (a s : Byte) (c : Bool) : Bool := decide (a.toNat + s.toNat + c.toNat > 0xFF)

/-- The H flag of `a - s - c` (41_alu8.md R202, R203). -/
def halfBorrow (a s : Byte) (c : Bool) : Bool := decide (a.toNat % 16 < s.toNat % 16 + c.toNat)

/-- The C flag of `a - s - c` (41_alu8.md R202, R203). -/
def borrow (a s : Byte) (c : Bool) : Bool := decide (a.toNat < s.toNat + c.toNat)

/-- The H flag of ADD HL,rr: the carry out of bit 11 (42_alu16.md R230). -/
def halfCarry16 (h s : Word) : Bool := decide (h.toNat % 0x1000 + s.toNat % 0x1000 > 0x0FFF)

/-- The C flag of ADD HL,rr: the carry out of bit 15 (42_alu16.md R230). -/
def carry16 (h s : Word) : Bool := decide (h.toNat + s.toNat > 0xFFFF)

/-- The carry flag as a value. -/
def carryByte (c : Bool) : Byte := if c then 1#8 else 0#8

/-! Rotates and shifts: the result and the new carry (43_bitops.md R240-R251). -/

/-- RLC, RLCA (R240, R244). -/
def rlcValue (v : Byte) (_ : Bool) : Byte × Bool :=
  ((v <<< 1) ||| carryByte (v.getLsbD 7), v.getLsbD 7)

/-- RRC, RRCA (R241, R245). -/
def rrcValue (v : Byte) (_ : Bool) : Byte × Bool :=
  ((v >>> 1) ||| (carryByte (v.getLsbD 0) <<< 7), v.getLsbD 0)

/-- RL, RLA (R242, R246). -/
def rlValue (v : Byte) (c : Bool) : Byte × Bool := ((v <<< 1) ||| carryByte c, v.getLsbD 7)

/-- RR, RRA (R243, R247). -/
def rrValue (v : Byte) (c : Bool) : Byte × Bool := ((v >>> 1) ||| (carryByte c <<< 7), v.getLsbD 0)

/-- SLA (R248). -/
def slaValue (v : Byte) (_ : Bool) : Byte × Bool := (v <<< 1, v.getLsbD 7)

/-- SRA (R249). -/
def sraValue (v : Byte) (_ : Bool) : Byte × Bool := ((v >>> 1) ||| (v &&& 0x80#8), v.getLsbD 0)

/-- SWAP (R250). -/
def swapValue (v : Byte) (_ : Bool) : Byte × Bool := (((v &&& 0x0F#8) <<< 4) ||| (v >>> 4), false)

/-- SRL (R251). -/
def srlValue (v : Byte) (_ : Bool) : Byte × Bool := (v >>> 1, v.getLsbD 0)

/-- DAA's result and new carry, from A and the N, H and C flags (41_alu8.md R212). -/
def daaValue (a : Byte) (n h c : Bool) : Byte × Bool :=
  if n then
    let a := if c then a - 0x60#8 else a
    (if h then a - 0x06#8 else a, c)
  else
    let up := c || decide (a.toNat > 0x99)
    let b := if up then a + 0x60#8 else a
    (if h || decide (b.toNat % 16 > 0x09) then b + 0x06#8 else b, up)

end Sys2Proof.Machine
end

