-- ==== Sys2Proof/Machine/Operands.lean ====
section
/-! DEFINITION. The operand forms of 30_encoding.md R133-R137 and the conditions of 44_control.md
R270. -/

namespace Sys2Proof.Machine

/-- `read_r8(k)` (30_encoding.md R134). -/
def State.readR8 (s : State) : R8 → Byte
  | .reg r => s.reg8 r
  | .atHL => s.memRead s.hl

/-- `write_r8(k, v)` (30_encoding.md R134). -/
def State.writeR8 (s : State) (k : R8) (v : Byte) : State :=
  match k with
  | .reg r => s.setReg8 r v
  | .atHL => s.memWrite s.hl v

/-- The cost of a form that is cheaper on a register than on (HL). -/
def r8Cost (k : R8) (reg mem : Nat) : Nat :=
  match k with
  | .reg _ => reg
  | .atHL => mem

/-- `x[rr]`, group 1 (30_encoding.md R135). -/
def State.readRR (s : State) : RR → Word
  | .bc => s.bc
  | .de => s.de
  | .hl => s.hl
  | .sp => s.cpu.sp

/-- `x[rr] <- v`, group 1 (30_encoding.md R135). -/
def State.writeRR (s : State) (rr : RR) (v : Word) : State :=
  match rr with
  | .bc => s.setBc v
  | .de => s.setDe v
  | .hl => s.setHl v
  | .sp => s.setSp v

/-- `x[rr]` as PUSH reads it, group 2: F's low nibble is masked to zero (40_load.md R191). -/
def State.readStackRR (s : State) : StackRR → Word
  | .bc => s.bc
  | .de => s.de
  | .hl => s.hl
  | .af => pair s.cpu.a (s.cpu.f &&& 0xF0#8)

/-- `x[rr] <- v` as POP writes it, group 2: the write to F is masked (40_load.md R192, R193). -/
def State.writeStackRR (s : State) (rr : StackRR) (v : Word) : State :=
  match rr with
  | .bc => s.setBc v
  | .de => s.setDe v
  | .hl => s.setHl v
  | .af => (s.setA (hi v)).setF (lo v)

/-- `0xFF00 + n`, the address of LDH and of `(C)` (30_encoding.md R137). -/
def highPage (n : Byte) : Word := 0xFF00#16 + n.setWidth 16

/-- `cond(cc)` (44_control.md R270). -/
def State.cond (s : State) : Cond → Bool
  | .nz => !s.flagZ
  | .z => s.flagZ
  | .nc => !s.flagC
  | .c => s.flagC

end Sys2Proof.Machine
end

