-- ==== Sys2Proof/Machine/Alu16.lean ====
section
/-! DEFINITION. 16-bit arithmetic (42_alu16.md). -/

namespace Sys2Proof.Machine

/-! ## The shapes -/

/-- ADD HL,rr: Z is kept (R230). -/
def addHl (rr : RR) (s : State) : Result :=
  let v := s.readRR rr
  .next (((s.setHl (s.hl + v)).setFlags s.flagZ false (halfCarry16 s.hl v) (carry16 s.hl v)).charge 8)

/-- INC rr: no flag (R231). -/
def incPair (rr : RR) (s : State) : Result := .next ((s.writeRR rr (s.readRR rr + 1#16)).charge 8)

/-- DEC rr: no flag (R232). -/
def decPair (rr : RR) (s : State) : Result := .next ((s.writeRR rr (s.readRR rr - 1#16)).charge 8)

/-- The flags of SP + e8: those of the unsigned addition of e to SP's low byte (R233, R234). -/
def spFlags (e : Byte) (s : State) : State :=
  s.setFlags false false (halfCarry (lo s.cpu.sp) e false) (carry (lo s.cpu.sp) e false)

/-- ADD SP,e8 (R233). -/
def addSp (e : Byte) (s : State) : Result :=
  .next (((spFlags e s).setSp (s.cpu.sp + sext16 e)).charge 16)

/-- LD HL,SP+e8 (R234). -/
def loadHlSp (e : Byte) (s : State) : Result :=
  .next (((spFlags e s).setHl (s.cpu.sp + sext16 e)).charge 12)

/-! ## The instructions -/

/-- INC BC (R231). -/
def execInc_BC (s : State) : Result := incPair .bc s

/-- ADD HL,BC (R230). -/
def execAdd_HL_BC (s : State) : Result := addHl .bc s

/-- DEC BC (R232). -/
def execDec_BC (s : State) : Result := decPair .bc s

/-- INC DE (R231). -/
def execInc_DE (s : State) : Result := incPair .de s

/-- ADD HL,DE (R230). -/
def execAdd_HL_DE (s : State) : Result := addHl .de s

/-- DEC DE (R232). -/
def execDec_DE (s : State) : Result := decPair .de s

/-- INC HL (R231). -/
def execInc_HL (s : State) : Result := incPair .hl s

/-- ADD HL,HL (R230). -/
def execAdd_HL_HL (s : State) : Result := addHl .hl s

/-- DEC HL (R232). -/
def execDec_HL (s : State) : Result := decPair .hl s

/-- INC SP (R231). -/
def execInc_SP (s : State) : Result := incPair .sp s

/-- ADD HL,SP (R230). -/
def execAdd_HL_SP (s : State) : Result := addHl .sp s

/-- DEC SP (R232). -/
def execDec_SP (s : State) : Result := decPair .sp s

/-- ADD SP,e8 (R233). -/
def execAdd_SP_e8 (e8 : Byte) (s : State) : Result := addSp e8 s

/-- LD HL,SP+e8 (R234). -/
def execLd_HL_SPe8 (e8 : Byte) (s : State) : Result := loadHlSp e8 s

end Sys2Proof.Machine
end

