-- ==== Sys2Proof/Machine/Alu8.lean ====
section
/-! DEFINITION. 8-bit arithmetic and logic (41_alu8.md). -/

namespace Sys2Proof.Machine

/-! ## The operations on A -/

/-- ADD (R200). -/
def addA (v : Byte) (s : State) : State :=
  (s.setA (s.cpu.a + v)).setFlags (isZero (s.cpu.a + v)) false (halfCarry s.cpu.a v false)
    (carry s.cpu.a v false)

/-- ADC (R201). -/
def adcA (v : Byte) (s : State) : State :=
  let r := s.cpu.a + v + carryByte s.flagC
  (s.setA r).setFlags (isZero r) false (halfCarry s.cpu.a v s.flagC) (carry s.cpu.a v s.flagC)

/-- SUB (R202). -/
def subA (v : Byte) (s : State) : State :=
  (s.setA (s.cpu.a - v)).setFlags (isZero (s.cpu.a - v)) true (halfBorrow s.cpu.a v false)
    (borrow s.cpu.a v false)

/-- SBC (R203). -/
def sbcA (v : Byte) (s : State) : State :=
  let r := s.cpu.a - v - carryByte s.flagC
  (s.setA r).setFlags (isZero r) true (halfBorrow s.cpu.a v s.flagC) (borrow s.cpu.a v s.flagC)

/-- AND (R204). -/
def andA (v : Byte) (s : State) : State :=
  (s.setA (s.cpu.a &&& v)).setFlags (isZero (s.cpu.a &&& v)) false true false

/-- XOR (R205). -/
def xorA (v : Byte) (s : State) : State :=
  (s.setA (s.cpu.a ^^^ v)).setFlags (isZero (s.cpu.a ^^^ v)) false false false

/-- OR (R206). -/
def orA (v : Byte) (s : State) : State :=
  (s.setA (s.cpu.a ||| v)).setFlags (isZero (s.cpu.a ||| v)) false false false

/-- CP: SUB's flags, and A is not written (R207). -/
def cpA (v : Byte) (s : State) : State :=
  s.setFlags (isZero (s.cpu.a - v)) true (halfBorrow s.cpu.a v false) (borrow s.cpu.a v false)

/-! ## The shapes -/

/-- `op A,r` and `op A,(HL)`: 4 and 8 T-cycles. -/
def aluR8 (op : Byte → State → State) (k : R8) (s : State) : Result :=
  .next ((op (s.readR8 k) s).charge (r8Cost k 4 8))

/-- `op A,d8`: 8 T-cycles. -/
def aluImm (op : Byte → State → State) (n : Byte) (s : State) : Result := .next ((op n s).charge 8)

/-- INC r and INC (HL): read, write, then Z N H; C is kept (R208, R209). -/
def incR8 (k : R8) (s : State) : Result :=
  let v := s.readR8 k
  .next (((s.writeR8 k (v + 1#8)).setFlags (isZero (v + 1#8)) false (decide (v.toNat % 16 = 0xF))
    s.flagC).charge (r8Cost k 4 12))

/-- DEC r and DEC (HL): read, write, then Z N H; C is kept (R210, R211). -/
def decR8 (k : R8) (s : State) : Result :=
  let v := s.readR8 k
  .next (((s.writeR8 k (v - 1#8)).setFlags (isZero (v - 1#8)) true (decide (v.toNat % 16 = 0x0))
    s.flagC).charge (r8Cost k 4 12))

/-- DAA: N is kept (R212). -/
def decimalAdjust (s : State) : Result :=
  let r := daaValue s.cpu.a s.flagN s.flagH s.flagC
  .next (((s.setA r.1).setFlags (isZero r.1) s.flagN false r.2).charge 4)

/-- CPL: Z and C are kept (R213). -/
def complementA (s : State) : Result :=
  .next (((s.setA (~~~s.cpu.a)).setFlags s.flagZ true true s.flagC).charge 4)

/-- SCF and CCF: N and H are cleared, Z is kept (R214, R215). -/
def setCarry (c : Bool) (s : State) : Result :=
  .next ((s.setFlags s.flagZ false false c).charge 4)

/-! ## The instructions -/

/-- INC B (R208). -/
def execInc_B (s : State) : Result := incR8 (.reg .b) s

/-- DEC B (R210). -/
def execDec_B (s : State) : Result := decR8 (.reg .b) s

/-- INC C (R208). -/
def execInc_C (s : State) : Result := incR8 (.reg .c) s

/-- DEC C (R210). -/
def execDec_C (s : State) : Result := decR8 (.reg .c) s

/-- INC D (R208). -/
def execInc_D (s : State) : Result := incR8 (.reg .d) s

/-- DEC D (R210). -/
def execDec_D (s : State) : Result := decR8 (.reg .d) s

/-- INC E (R208). -/
def execInc_E (s : State) : Result := incR8 (.reg .e) s

/-- DEC E (R210). -/
def execDec_E (s : State) : Result := decR8 (.reg .e) s

/-- INC H (R208). -/
def execInc_H (s : State) : Result := incR8 (.reg .h) s

/-- DEC H (R210). -/
def execDec_H (s : State) : Result := decR8 (.reg .h) s

/-- DAA (R212). -/
def execDaa (s : State) : Result := decimalAdjust s

/-- INC L (R208). -/
def execInc_L (s : State) : Result := incR8 (.reg .l) s

/-- DEC L (R210). -/
def execDec_L (s : State) : Result := decR8 (.reg .l) s

/-- CPL (R213). -/
def execCpl (s : State) : Result := complementA s

/-- INC (HL) (R209). -/
def execInc_atHL (s : State) : Result := incR8 .atHL s

/-- DEC (HL) (R211). -/
def execDec_atHL (s : State) : Result := decR8 .atHL s

/-- SCF (R214). -/
def execScf (s : State) : Result := setCarry true s

/-- INC A (R208). -/
def execInc_A (s : State) : Result := incR8 (.reg .a) s

/-- DEC A (R210). -/
def execDec_A (s : State) : Result := decR8 (.reg .a) s

/-- CCF (R215). -/
def execCcf (s : State) : Result := setCarry (!s.flagC) s

/-- ADD A,B (R200). -/
def execAdd_A_B (s : State) : Result := aluR8 addA (.reg .b) s

/-- ADD A,C (R200). -/
def execAdd_A_C (s : State) : Result := aluR8 addA (.reg .c) s

/-- ADD A,D (R200). -/
def execAdd_A_D (s : State) : Result := aluR8 addA (.reg .d) s

/-- ADD A,E (R200). -/
def execAdd_A_E (s : State) : Result := aluR8 addA (.reg .e) s

/-- ADD A,H (R200). -/
def execAdd_A_H (s : State) : Result := aluR8 addA (.reg .h) s

/-- ADD A,L (R200). -/
def execAdd_A_L (s : State) : Result := aluR8 addA (.reg .l) s

/-- ADD A,(HL) (R200). -/
def execAdd_A_atHL (s : State) : Result := aluR8 addA .atHL s

/-- ADD A,A (R200). -/
def execAdd_A_A (s : State) : Result := aluR8 addA (.reg .a) s

/-- ADC A,B (R201). -/
def execAdc_A_B (s : State) : Result := aluR8 adcA (.reg .b) s

/-- ADC A,C (R201). -/
def execAdc_A_C (s : State) : Result := aluR8 adcA (.reg .c) s

/-- ADC A,D (R201). -/
def execAdc_A_D (s : State) : Result := aluR8 adcA (.reg .d) s

/-- ADC A,E (R201). -/
def execAdc_A_E (s : State) : Result := aluR8 adcA (.reg .e) s

/-- ADC A,H (R201). -/
def execAdc_A_H (s : State) : Result := aluR8 adcA (.reg .h) s

/-- ADC A,L (R201). -/
def execAdc_A_L (s : State) : Result := aluR8 adcA (.reg .l) s

/-- ADC A,(HL) (R201). -/
def execAdc_A_atHL (s : State) : Result := aluR8 adcA .atHL s

/-- ADC A,A (R201). -/
def execAdc_A_A (s : State) : Result := aluR8 adcA (.reg .a) s

/-- SUB B (R202). -/
def execSub_B (s : State) : Result := aluR8 subA (.reg .b) s

/-- SUB C (R202). -/
def execSub_C (s : State) : Result := aluR8 subA (.reg .c) s

/-- SUB D (R202). -/
def execSub_D (s : State) : Result := aluR8 subA (.reg .d) s

/-- SUB E (R202). -/
def execSub_E (s : State) : Result := aluR8 subA (.reg .e) s

/-- SUB H (R202). -/
def execSub_H (s : State) : Result := aluR8 subA (.reg .h) s

/-- SUB L (R202). -/
def execSub_L (s : State) : Result := aluR8 subA (.reg .l) s

/-- SUB (HL) (R202). -/
def execSub_atHL (s : State) : Result := aluR8 subA .atHL s

/-- SUB A (R202). -/
def execSub_A (s : State) : Result := aluR8 subA (.reg .a) s

/-- SBC A,B (R203). -/
def execSbc_A_B (s : State) : Result := aluR8 sbcA (.reg .b) s

/-- SBC A,C (R203). -/
def execSbc_A_C (s : State) : Result := aluR8 sbcA (.reg .c) s

/-- SBC A,D (R203). -/
def execSbc_A_D (s : State) : Result := aluR8 sbcA (.reg .d) s

/-- SBC A,E (R203). -/
def execSbc_A_E (s : State) : Result := aluR8 sbcA (.reg .e) s

/-- SBC A,H (R203). -/
def execSbc_A_H (s : State) : Result := aluR8 sbcA (.reg .h) s

/-- SBC A,L (R203). -/
def execSbc_A_L (s : State) : Result := aluR8 sbcA (.reg .l) s

/-- SBC A,(HL) (R203). -/
def execSbc_A_atHL (s : State) : Result := aluR8 sbcA .atHL s

/-- SBC A,A (R203). -/
def execSbc_A_A (s : State) : Result := aluR8 sbcA (.reg .a) s

/-- AND B (R204). -/
def execAnd_B (s : State) : Result := aluR8 andA (.reg .b) s

/-- AND C (R204). -/
def execAnd_C (s : State) : Result := aluR8 andA (.reg .c) s

/-- AND D (R204). -/
def execAnd_D (s : State) : Result := aluR8 andA (.reg .d) s

/-- AND E (R204). -/
def execAnd_E (s : State) : Result := aluR8 andA (.reg .e) s

/-- AND H (R204). -/
def execAnd_H (s : State) : Result := aluR8 andA (.reg .h) s

/-- AND L (R204). -/
def execAnd_L (s : State) : Result := aluR8 andA (.reg .l) s

/-- AND (HL) (R204). -/
def execAnd_atHL (s : State) : Result := aluR8 andA .atHL s

/-- AND A (R204). -/
def execAnd_A (s : State) : Result := aluR8 andA (.reg .a) s

/-- XOR B (R205). -/
def execXor_B (s : State) : Result := aluR8 xorA (.reg .b) s

/-- XOR C (R205). -/
def execXor_C (s : State) : Result := aluR8 xorA (.reg .c) s

/-- XOR D (R205). -/
def execXor_D (s : State) : Result := aluR8 xorA (.reg .d) s

/-- XOR E (R205). -/
def execXor_E (s : State) : Result := aluR8 xorA (.reg .e) s

/-- XOR H (R205). -/
def execXor_H (s : State) : Result := aluR8 xorA (.reg .h) s

/-- XOR L (R205). -/
def execXor_L (s : State) : Result := aluR8 xorA (.reg .l) s

/-- XOR (HL) (R205). -/
def execXor_atHL (s : State) : Result := aluR8 xorA .atHL s

/-- XOR A (R205). -/
def execXor_A (s : State) : Result := aluR8 xorA (.reg .a) s

/-- OR B (R206). -/
def execOr_B (s : State) : Result := aluR8 orA (.reg .b) s

/-- OR C (R206). -/
def execOr_C (s : State) : Result := aluR8 orA (.reg .c) s

/-- OR D (R206). -/
def execOr_D (s : State) : Result := aluR8 orA (.reg .d) s

/-- OR E (R206). -/
def execOr_E (s : State) : Result := aluR8 orA (.reg .e) s

/-- OR H (R206). -/
def execOr_H (s : State) : Result := aluR8 orA (.reg .h) s

/-- OR L (R206). -/
def execOr_L (s : State) : Result := aluR8 orA (.reg .l) s

/-- OR (HL) (R206). -/
def execOr_atHL (s : State) : Result := aluR8 orA .atHL s

/-- OR A (R206). -/
def execOr_A (s : State) : Result := aluR8 orA (.reg .a) s

/-- CP B (R207). -/
def execCp_B (s : State) : Result := aluR8 cpA (.reg .b) s

/-- CP C (R207). -/
def execCp_C (s : State) : Result := aluR8 cpA (.reg .c) s

/-- CP D (R207). -/
def execCp_D (s : State) : Result := aluR8 cpA (.reg .d) s

/-- CP E (R207). -/
def execCp_E (s : State) : Result := aluR8 cpA (.reg .e) s

/-- CP H (R207). -/
def execCp_H (s : State) : Result := aluR8 cpA (.reg .h) s

/-- CP L (R207). -/
def execCp_L (s : State) : Result := aluR8 cpA (.reg .l) s

/-- CP (HL) (R207). -/
def execCp_atHL (s : State) : Result := aluR8 cpA .atHL s

/-- CP A (R207). -/
def execCp_A (s : State) : Result := aluR8 cpA (.reg .a) s

/-- ADD A,d8 (R200). -/
def execAdd_A_d8 (d8 : Byte) (s : State) : Result := aluImm addA d8 s

/-- ADC A,d8 (R201). -/
def execAdc_A_d8 (d8 : Byte) (s : State) : Result := aluImm adcA d8 s

/-- SUB d8 (R202). -/
def execSub_d8 (d8 : Byte) (s : State) : Result := aluImm subA d8 s

/-- SBC A,d8 (R203). -/
def execSbc_A_d8 (d8 : Byte) (s : State) : Result := aluImm sbcA d8 s

/-- AND d8 (R204). -/
def execAnd_d8 (d8 : Byte) (s : State) : Result := aluImm andA d8 s

/-- XOR d8 (R205). -/
def execXor_d8 (d8 : Byte) (s : State) : Result := aluImm xorA d8 s

/-- OR d8 (R206). -/
def execOr_d8 (d8 : Byte) (s : State) : Result := aluImm orA d8 s

/-- CP d8 (R207). -/
def execCp_d8 (d8 : Byte) (s : State) : Result := aluImm cpA d8 s

end Sys2Proof.Machine
end

