-- ==== Sys2Proof/Machine/BitOps.lean ====
section
/-! DEFINITION. Rotates, shifts and bit operations (43_bitops.md), and the CB prefix that
re-dispatches to them (45_system.md R291). -/

namespace Sys2Proof.Machine

/-! ## The shapes -/

/-- A rotate or shift: from the value and the carry, the result and the new carry. -/
abbrev Rotate := Byte → Bool → Byte × Bool

/-- RLCA, RRCA, RLA, RRA: Z is always cleared (R240-R243). -/
def rotA (op : Rotate) (s : State) : Result :=
  let r := op s.cpu.a s.flagC
  .next (((s.setA r.1).setFlags false false false r.2).charge 4)

/-- The CB rotates, shifts and SWAP on r8: Z from the result (R244-R251). -/
def rotR8 (op : Rotate) (k : R8) (s : State) : Result :=
  let r := op (s.readR8 k) s.flagC
  .next (((s.writeR8 k r.1).setFlags (isZero r.1) false false r.2).charge (r8Cost k 8 16))

/-- BIT b,r: one read, no write; C is kept (R252). -/
def bitBit (b : Nat) (k : R8) (s : State) : Result :=
  .next ((s.setFlags (!(s.readR8 k).getLsbD b) false true s.flagC).charge (r8Cost k 8 12))

/-- RES b,r: no flag (R253). -/
def resBit (b : Nat) (k : R8) (s : State) : Result :=
  .next ((s.writeR8 k (s.readR8 k &&& ~~~(1#8 <<< b))).charge (r8Cost k 8 16))

/-- SET b,r: no flag (R254). -/
def setBit (b : Nat) (k : R8) (s : State) : Result :=
  .next ((s.writeR8 k (s.readR8 k ||| (1#8 <<< b))).charge (r8Cost k 8 16))

/-- The r8 field as a number (30_encoding.md R133). -/
def r8Field (z : Nat) : R8 :=
  match z with
  | 0 => .reg .b
  | 1 => .reg .c
  | 2 => .reg .d
  | 3 => .reg .e
  | 4 => .reg .h
  | 5 => .reg .l
  | 6 => .atHL
  | _ => .reg .a

/-- The rotate or shift that the field `ooo` selects (30_encoding.md R141). -/
def rotateField (o : Nat) : Rotate :=
  match o with
  | 0 => rlcValue
  | 1 => rrcValue
  | 2 => rlValue
  | 3 => rrValue
  | 4 => slaValue
  | 5 => sraValue
  | 6 => swapValue
  | _ => srlValue

/-- The CB-table instruction selected by `op2`, by its fields x, y and z (30_encoding.md R132,
R141). -/
def cbTable (op2 : Byte) (s : State) : Result :=
  let y := op2.toNat / 8 % 8
  let k := r8Field (op2.toNat % 8)
  match op2.toNat / 64 with
  | 0 => rotR8 (rotateField y) k s
  | 1 => bitBit y k s
  | 2 => resBit y k s
  | _ => setBit y k s

/-! ## The instructions -/

/-- RLCA (R240). -/
def execRlca (s : State) : Result := rotA rlcValue s

/-- RRCA (R241). -/
def execRrca (s : State) : Result := rotA rrcValue s

/-- RLA (R242). -/
def execRla (s : State) : Result := rotA rlValue s

/-- RRA (R243). -/
def execRra (s : State) : Result := rotA rrValue s

/-- PREFIX CB (R291). -/
def execPrefix_CB (op2 : Byte) (s : State) : Result := cbTable op2 s

/-- RLC B (R244). -/
def execRlc_B (s : State) : Result := rotR8 rlcValue (.reg .b) s

/-- RLC C (R244). -/
def execRlc_C (s : State) : Result := rotR8 rlcValue (.reg .c) s

/-- RLC D (R244). -/
def execRlc_D (s : State) : Result := rotR8 rlcValue (.reg .d) s

/-- RLC E (R244). -/
def execRlc_E (s : State) : Result := rotR8 rlcValue (.reg .e) s

/-- RLC H (R244). -/
def execRlc_H (s : State) : Result := rotR8 rlcValue (.reg .h) s

/-- RLC L (R244). -/
def execRlc_L (s : State) : Result := rotR8 rlcValue (.reg .l) s

/-- RLC (HL) (R244). -/
def execRlc_atHL (s : State) : Result := rotR8 rlcValue .atHL s

/-- RLC A (R244). -/
def execRlc_A (s : State) : Result := rotR8 rlcValue (.reg .a) s

/-- RRC B (R245). -/
def execRrc_B (s : State) : Result := rotR8 rrcValue (.reg .b) s

/-- RRC C (R245). -/
def execRrc_C (s : State) : Result := rotR8 rrcValue (.reg .c) s

/-- RRC D (R245). -/
def execRrc_D (s : State) : Result := rotR8 rrcValue (.reg .d) s

/-- RRC E (R245). -/
def execRrc_E (s : State) : Result := rotR8 rrcValue (.reg .e) s

/-- RRC H (R245). -/
def execRrc_H (s : State) : Result := rotR8 rrcValue (.reg .h) s

/-- RRC L (R245). -/
def execRrc_L (s : State) : Result := rotR8 rrcValue (.reg .l) s

/-- RRC (HL) (R245). -/
def execRrc_atHL (s : State) : Result := rotR8 rrcValue .atHL s

/-- RRC A (R245). -/
def execRrc_A (s : State) : Result := rotR8 rrcValue (.reg .a) s

/-- RL B (R246). -/
def execRl_B (s : State) : Result := rotR8 rlValue (.reg .b) s

/-- RL C (R246). -/
def execRl_C (s : State) : Result := rotR8 rlValue (.reg .c) s

/-- RL D (R246). -/
def execRl_D (s : State) : Result := rotR8 rlValue (.reg .d) s

/-- RL E (R246). -/
def execRl_E (s : State) : Result := rotR8 rlValue (.reg .e) s

/-- RL H (R246). -/
def execRl_H (s : State) : Result := rotR8 rlValue (.reg .h) s

/-- RL L (R246). -/
def execRl_L (s : State) : Result := rotR8 rlValue (.reg .l) s

/-- RL (HL) (R246). -/
def execRl_atHL (s : State) : Result := rotR8 rlValue .atHL s

/-- RL A (R246). -/
def execRl_A (s : State) : Result := rotR8 rlValue (.reg .a) s

/-- RR B (R247). -/
def execRr_B (s : State) : Result := rotR8 rrValue (.reg .b) s

/-- RR C (R247). -/
def execRr_C (s : State) : Result := rotR8 rrValue (.reg .c) s

/-- RR D (R247). -/
def execRr_D (s : State) : Result := rotR8 rrValue (.reg .d) s

/-- RR E (R247). -/
def execRr_E (s : State) : Result := rotR8 rrValue (.reg .e) s

/-- RR H (R247). -/
def execRr_H (s : State) : Result := rotR8 rrValue (.reg .h) s

/-- RR L (R247). -/
def execRr_L (s : State) : Result := rotR8 rrValue (.reg .l) s

/-- RR (HL) (R247). -/
def execRr_atHL (s : State) : Result := rotR8 rrValue .atHL s

/-- RR A (R247). -/
def execRr_A (s : State) : Result := rotR8 rrValue (.reg .a) s

/-- SLA B (R248). -/
def execSla_B (s : State) : Result := rotR8 slaValue (.reg .b) s

/-- SLA C (R248). -/
def execSla_C (s : State) : Result := rotR8 slaValue (.reg .c) s

/-- SLA D (R248). -/
def execSla_D (s : State) : Result := rotR8 slaValue (.reg .d) s

/-- SLA E (R248). -/
def execSla_E (s : State) : Result := rotR8 slaValue (.reg .e) s

/-- SLA H (R248). -/
def execSla_H (s : State) : Result := rotR8 slaValue (.reg .h) s

/-- SLA L (R248). -/
def execSla_L (s : State) : Result := rotR8 slaValue (.reg .l) s

/-- SLA (HL) (R248). -/
def execSla_atHL (s : State) : Result := rotR8 slaValue .atHL s

/-- SLA A (R248). -/
def execSla_A (s : State) : Result := rotR8 slaValue (.reg .a) s

/-- SRA B (R249). -/
def execSra_B (s : State) : Result := rotR8 sraValue (.reg .b) s

/-- SRA C (R249). -/
def execSra_C (s : State) : Result := rotR8 sraValue (.reg .c) s

/-- SRA D (R249). -/
def execSra_D (s : State) : Result := rotR8 sraValue (.reg .d) s

/-- SRA E (R249). -/
def execSra_E (s : State) : Result := rotR8 sraValue (.reg .e) s

/-- SRA H (R249). -/
def execSra_H (s : State) : Result := rotR8 sraValue (.reg .h) s

/-- SRA L (R249). -/
def execSra_L (s : State) : Result := rotR8 sraValue (.reg .l) s

/-- SRA (HL) (R249). -/
def execSra_atHL (s : State) : Result := rotR8 sraValue .atHL s

/-- SRA A (R249). -/
def execSra_A (s : State) : Result := rotR8 sraValue (.reg .a) s

/-- SWAP B (R250). -/
def execSwap_B (s : State) : Result := rotR8 swapValue (.reg .b) s

/-- SWAP C (R250). -/
def execSwap_C (s : State) : Result := rotR8 swapValue (.reg .c) s

/-- SWAP D (R250). -/
def execSwap_D (s : State) : Result := rotR8 swapValue (.reg .d) s

/-- SWAP E (R250). -/
def execSwap_E (s : State) : Result := rotR8 swapValue (.reg .e) s

/-- SWAP H (R250). -/
def execSwap_H (s : State) : Result := rotR8 swapValue (.reg .h) s

/-- SWAP L (R250). -/
def execSwap_L (s : State) : Result := rotR8 swapValue (.reg .l) s

/-- SWAP (HL) (R250). -/
def execSwap_atHL (s : State) : Result := rotR8 swapValue .atHL s

/-- SWAP A (R250). -/
def execSwap_A (s : State) : Result := rotR8 swapValue (.reg .a) s

/-- SRL B (R251). -/
def execSrl_B (s : State) : Result := rotR8 srlValue (.reg .b) s

/-- SRL C (R251). -/
def execSrl_C (s : State) : Result := rotR8 srlValue (.reg .c) s

/-- SRL D (R251). -/
def execSrl_D (s : State) : Result := rotR8 srlValue (.reg .d) s

/-- SRL E (R251). -/
def execSrl_E (s : State) : Result := rotR8 srlValue (.reg .e) s

/-- SRL H (R251). -/
def execSrl_H (s : State) : Result := rotR8 srlValue (.reg .h) s

/-- SRL L (R251). -/
def execSrl_L (s : State) : Result := rotR8 srlValue (.reg .l) s

/-- SRL (HL) (R251). -/
def execSrl_atHL (s : State) : Result := rotR8 srlValue .atHL s

/-- SRL A (R251). -/
def execSrl_A (s : State) : Result := rotR8 srlValue (.reg .a) s

/-- BIT 0,B (R252). -/
def execBit_0_B (s : State) : Result := bitBit 0 (.reg .b) s

/-- BIT 0,C (R252). -/
def execBit_0_C (s : State) : Result := bitBit 0 (.reg .c) s

/-- BIT 0,D (R252). -/
def execBit_0_D (s : State) : Result := bitBit 0 (.reg .d) s

/-- BIT 0,E (R252). -/
def execBit_0_E (s : State) : Result := bitBit 0 (.reg .e) s

/-- BIT 0,H (R252). -/
def execBit_0_H (s : State) : Result := bitBit 0 (.reg .h) s

/-- BIT 0,L (R252). -/
def execBit_0_L (s : State) : Result := bitBit 0 (.reg .l) s

/-- BIT 0,(HL) (R252). -/
def execBit_0_atHL (s : State) : Result := bitBit 0 .atHL s

/-- BIT 0,A (R252). -/
def execBit_0_A (s : State) : Result := bitBit 0 (.reg .a) s

/-- BIT 1,B (R252). -/
def execBit_1_B (s : State) : Result := bitBit 1 (.reg .b) s

/-- BIT 1,C (R252). -/
def execBit_1_C (s : State) : Result := bitBit 1 (.reg .c) s

/-- BIT 1,D (R252). -/
def execBit_1_D (s : State) : Result := bitBit 1 (.reg .d) s

/-- BIT 1,E (R252). -/
def execBit_1_E (s : State) : Result := bitBit 1 (.reg .e) s

/-- BIT 1,H (R252). -/
def execBit_1_H (s : State) : Result := bitBit 1 (.reg .h) s

/-- BIT 1,L (R252). -/
def execBit_1_L (s : State) : Result := bitBit 1 (.reg .l) s

/-- BIT 1,(HL) (R252). -/
def execBit_1_atHL (s : State) : Result := bitBit 1 .atHL s

/-- BIT 1,A (R252). -/
def execBit_1_A (s : State) : Result := bitBit 1 (.reg .a) s

/-- BIT 2,B (R252). -/
def execBit_2_B (s : State) : Result := bitBit 2 (.reg .b) s

/-- BIT 2,C (R252). -/
def execBit_2_C (s : State) : Result := bitBit 2 (.reg .c) s

/-- BIT 2,D (R252). -/
def execBit_2_D (s : State) : Result := bitBit 2 (.reg .d) s

/-- BIT 2,E (R252). -/
def execBit_2_E (s : State) : Result := bitBit 2 (.reg .e) s

/-- BIT 2,H (R252). -/
def execBit_2_H (s : State) : Result := bitBit 2 (.reg .h) s

/-- BIT 2,L (R252). -/
def execBit_2_L (s : State) : Result := bitBit 2 (.reg .l) s

/-- BIT 2,(HL) (R252). -/
def execBit_2_atHL (s : State) : Result := bitBit 2 .atHL s

/-- BIT 2,A (R252). -/
def execBit_2_A (s : State) : Result := bitBit 2 (.reg .a) s

/-- BIT 3,B (R252). -/
def execBit_3_B (s : State) : Result := bitBit 3 (.reg .b) s

/-- BIT 3,C (R252). -/
def execBit_3_C (s : State) : Result := bitBit 3 (.reg .c) s

/-- BIT 3,D (R252). -/
def execBit_3_D (s : State) : Result := bitBit 3 (.reg .d) s

/-- BIT 3,E (R252). -/
def execBit_3_E (s : State) : Result := bitBit 3 (.reg .e) s

/-- BIT 3,H (R252). -/
def execBit_3_H (s : State) : Result := bitBit 3 (.reg .h) s

/-- BIT 3,L (R252). -/
def execBit_3_L (s : State) : Result := bitBit 3 (.reg .l) s

/-- BIT 3,(HL) (R252). -/
def execBit_3_atHL (s : State) : Result := bitBit 3 .atHL s

/-- BIT 3,A (R252). -/
def execBit_3_A (s : State) : Result := bitBit 3 (.reg .a) s

/-- BIT 4,B (R252). -/
def execBit_4_B (s : State) : Result := bitBit 4 (.reg .b) s

/-- BIT 4,C (R252). -/
def execBit_4_C (s : State) : Result := bitBit 4 (.reg .c) s

/-- BIT 4,D (R252). -/
def execBit_4_D (s : State) : Result := bitBit 4 (.reg .d) s

/-- BIT 4,E (R252). -/
def execBit_4_E (s : State) : Result := bitBit 4 (.reg .e) s

/-- BIT 4,H (R252). -/
def execBit_4_H (s : State) : Result := bitBit 4 (.reg .h) s

/-- BIT 4,L (R252). -/
def execBit_4_L (s : State) : Result := bitBit 4 (.reg .l) s

/-- BIT 4,(HL) (R252). -/
def execBit_4_atHL (s : State) : Result := bitBit 4 .atHL s

/-- BIT 4,A (R252). -/
def execBit_4_A (s : State) : Result := bitBit 4 (.reg .a) s

/-- BIT 5,B (R252). -/
def execBit_5_B (s : State) : Result := bitBit 5 (.reg .b) s

/-- BIT 5,C (R252). -/
def execBit_5_C (s : State) : Result := bitBit 5 (.reg .c) s

/-- BIT 5,D (R252). -/
def execBit_5_D (s : State) : Result := bitBit 5 (.reg .d) s

/-- BIT 5,E (R252). -/
def execBit_5_E (s : State) : Result := bitBit 5 (.reg .e) s

/-- BIT 5,H (R252). -/
def execBit_5_H (s : State) : Result := bitBit 5 (.reg .h) s

/-- BIT 5,L (R252). -/
def execBit_5_L (s : State) : Result := bitBit 5 (.reg .l) s

/-- BIT 5,(HL) (R252). -/
def execBit_5_atHL (s : State) : Result := bitBit 5 .atHL s

/-- BIT 5,A (R252). -/
def execBit_5_A (s : State) : Result := bitBit 5 (.reg .a) s

/-- BIT 6,B (R252). -/
def execBit_6_B (s : State) : Result := bitBit 6 (.reg .b) s

/-- BIT 6,C (R252). -/
def execBit_6_C (s : State) : Result := bitBit 6 (.reg .c) s

/-- BIT 6,D (R252). -/
def execBit_6_D (s : State) : Result := bitBit 6 (.reg .d) s

/-- BIT 6,E (R252). -/
def execBit_6_E (s : State) : Result := bitBit 6 (.reg .e) s

/-- BIT 6,H (R252). -/
def execBit_6_H (s : State) : Result := bitBit 6 (.reg .h) s

/-- BIT 6,L (R252). -/
def execBit_6_L (s : State) : Result := bitBit 6 (.reg .l) s

/-- BIT 6,(HL) (R252). -/
def execBit_6_atHL (s : State) : Result := bitBit 6 .atHL s

/-- BIT 6,A (R252). -/
def execBit_6_A (s : State) : Result := bitBit 6 (.reg .a) s

/-- BIT 7,B (R252). -/
def execBit_7_B (s : State) : Result := bitBit 7 (.reg .b) s

/-- BIT 7,C (R252). -/
def execBit_7_C (s : State) : Result := bitBit 7 (.reg .c) s

/-- BIT 7,D (R252). -/
def execBit_7_D (s : State) : Result := bitBit 7 (.reg .d) s

/-- BIT 7,E (R252). -/
def execBit_7_E (s : State) : Result := bitBit 7 (.reg .e) s

/-- BIT 7,H (R252). -/
def execBit_7_H (s : State) : Result := bitBit 7 (.reg .h) s

/-- BIT 7,L (R252). -/
def execBit_7_L (s : State) : Result := bitBit 7 (.reg .l) s

/-- BIT 7,(HL) (R252). -/
def execBit_7_atHL (s : State) : Result := bitBit 7 .atHL s

/-- BIT 7,A (R252). -/
def execBit_7_A (s : State) : Result := bitBit 7 (.reg .a) s

/-- RES 0,B (R253). -/
def execRes_0_B (s : State) : Result := resBit 0 (.reg .b) s

/-- RES 0,C (R253). -/
def execRes_0_C (s : State) : Result := resBit 0 (.reg .c) s

/-- RES 0,D (R253). -/
def execRes_0_D (s : State) : Result := resBit 0 (.reg .d) s

/-- RES 0,E (R253). -/
def execRes_0_E (s : State) : Result := resBit 0 (.reg .e) s

/-- RES 0,H (R253). -/
def execRes_0_H (s : State) : Result := resBit 0 (.reg .h) s

/-- RES 0,L (R253). -/
def execRes_0_L (s : State) : Result := resBit 0 (.reg .l) s

/-- RES 0,(HL) (R253). -/
def execRes_0_atHL (s : State) : Result := resBit 0 .atHL s

/-- RES 0,A (R253). -/
def execRes_0_A (s : State) : Result := resBit 0 (.reg .a) s

/-- RES 1,B (R253). -/
def execRes_1_B (s : State) : Result := resBit 1 (.reg .b) s

/-- RES 1,C (R253). -/
def execRes_1_C (s : State) : Result := resBit 1 (.reg .c) s

/-- RES 1,D (R253). -/
def execRes_1_D (s : State) : Result := resBit 1 (.reg .d) s

/-- RES 1,E (R253). -/
def execRes_1_E (s : State) : Result := resBit 1 (.reg .e) s

/-- RES 1,H (R253). -/
def execRes_1_H (s : State) : Result := resBit 1 (.reg .h) s

/-- RES 1,L (R253). -/
def execRes_1_L (s : State) : Result := resBit 1 (.reg .l) s

/-- RES 1,(HL) (R253). -/
def execRes_1_atHL (s : State) : Result := resBit 1 .atHL s

/-- RES 1,A (R253). -/
def execRes_1_A (s : State) : Result := resBit 1 (.reg .a) s

/-- RES 2,B (R253). -/
def execRes_2_B (s : State) : Result := resBit 2 (.reg .b) s

/-- RES 2,C (R253). -/
def execRes_2_C (s : State) : Result := resBit 2 (.reg .c) s

/-- RES 2,D (R253). -/
def execRes_2_D (s : State) : Result := resBit 2 (.reg .d) s

/-- RES 2,E (R253). -/
def execRes_2_E (s : State) : Result := resBit 2 (.reg .e) s

/-- RES 2,H (R253). -/
def execRes_2_H (s : State) : Result := resBit 2 (.reg .h) s

/-- RES 2,L (R253). -/
def execRes_2_L (s : State) : Result := resBit 2 (.reg .l) s

/-- RES 2,(HL) (R253). -/
def execRes_2_atHL (s : State) : Result := resBit 2 .atHL s

/-- RES 2,A (R253). -/
def execRes_2_A (s : State) : Result := resBit 2 (.reg .a) s

/-- RES 3,B (R253). -/
def execRes_3_B (s : State) : Result := resBit 3 (.reg .b) s

/-- RES 3,C (R253). -/
def execRes_3_C (s : State) : Result := resBit 3 (.reg .c) s

/-- RES 3,D (R253). -/
def execRes_3_D (s : State) : Result := resBit 3 (.reg .d) s

/-- RES 3,E (R253). -/
def execRes_3_E (s : State) : Result := resBit 3 (.reg .e) s

/-- RES 3,H (R253). -/
def execRes_3_H (s : State) : Result := resBit 3 (.reg .h) s

/-- RES 3,L (R253). -/
def execRes_3_L (s : State) : Result := resBit 3 (.reg .l) s

/-- RES 3,(HL) (R253). -/
def execRes_3_atHL (s : State) : Result := resBit 3 .atHL s

/-- RES 3,A (R253). -/
def execRes_3_A (s : State) : Result := resBit 3 (.reg .a) s

/-- RES 4,B (R253). -/
def execRes_4_B (s : State) : Result := resBit 4 (.reg .b) s

/-- RES 4,C (R253). -/
def execRes_4_C (s : State) : Result := resBit 4 (.reg .c) s

/-- RES 4,D (R253). -/
def execRes_4_D (s : State) : Result := resBit 4 (.reg .d) s

/-- RES 4,E (R253). -/
def execRes_4_E (s : State) : Result := resBit 4 (.reg .e) s

/-- RES 4,H (R253). -/
def execRes_4_H (s : State) : Result := resBit 4 (.reg .h) s

/-- RES 4,L (R253). -/
def execRes_4_L (s : State) : Result := resBit 4 (.reg .l) s

/-- RES 4,(HL) (R253). -/
def execRes_4_atHL (s : State) : Result := resBit 4 .atHL s

/-- RES 4,A (R253). -/
def execRes_4_A (s : State) : Result := resBit 4 (.reg .a) s

/-- RES 5,B (R253). -/
def execRes_5_B (s : State) : Result := resBit 5 (.reg .b) s

/-- RES 5,C (R253). -/
def execRes_5_C (s : State) : Result := resBit 5 (.reg .c) s

/-- RES 5,D (R253). -/
def execRes_5_D (s : State) : Result := resBit 5 (.reg .d) s

/-- RES 5,E (R253). -/
def execRes_5_E (s : State) : Result := resBit 5 (.reg .e) s

/-- RES 5,H (R253). -/
def execRes_5_H (s : State) : Result := resBit 5 (.reg .h) s

/-- RES 5,L (R253). -/
def execRes_5_L (s : State) : Result := resBit 5 (.reg .l) s

/-- RES 5,(HL) (R253). -/
def execRes_5_atHL (s : State) : Result := resBit 5 .atHL s

/-- RES 5,A (R253). -/
def execRes_5_A (s : State) : Result := resBit 5 (.reg .a) s

/-- RES 6,B (R253). -/
def execRes_6_B (s : State) : Result := resBit 6 (.reg .b) s

/-- RES 6,C (R253). -/
def execRes_6_C (s : State) : Result := resBit 6 (.reg .c) s

/-- RES 6,D (R253). -/
def execRes_6_D (s : State) : Result := resBit 6 (.reg .d) s

/-- RES 6,E (R253). -/
def execRes_6_E (s : State) : Result := resBit 6 (.reg .e) s

/-- RES 6,H (R253). -/
def execRes_6_H (s : State) : Result := resBit 6 (.reg .h) s

/-- RES 6,L (R253). -/
def execRes_6_L (s : State) : Result := resBit 6 (.reg .l) s

/-- RES 6,(HL) (R253). -/
def execRes_6_atHL (s : State) : Result := resBit 6 .atHL s

/-- RES 6,A (R253). -/
def execRes_6_A (s : State) : Result := resBit 6 (.reg .a) s

/-- RES 7,B (R253). -/
def execRes_7_B (s : State) : Result := resBit 7 (.reg .b) s

/-- RES 7,C (R253). -/
def execRes_7_C (s : State) : Result := resBit 7 (.reg .c) s

/-- RES 7,D (R253). -/
def execRes_7_D (s : State) : Result := resBit 7 (.reg .d) s

/-- RES 7,E (R253). -/
def execRes_7_E (s : State) : Result := resBit 7 (.reg .e) s

/-- RES 7,H (R253). -/
def execRes_7_H (s : State) : Result := resBit 7 (.reg .h) s

/-- RES 7,L (R253). -/
def execRes_7_L (s : State) : Result := resBit 7 (.reg .l) s

/-- RES 7,(HL) (R253). -/
def execRes_7_atHL (s : State) : Result := resBit 7 .atHL s

/-- RES 7,A (R253). -/
def execRes_7_A (s : State) : Result := resBit 7 (.reg .a) s

/-- SET 0,B (R254). -/
def execSet_0_B (s : State) : Result := setBit 0 (.reg .b) s

/-- SET 0,C (R254). -/
def execSet_0_C (s : State) : Result := setBit 0 (.reg .c) s

/-- SET 0,D (R254). -/
def execSet_0_D (s : State) : Result := setBit 0 (.reg .d) s

/-- SET 0,E (R254). -/
def execSet_0_E (s : State) : Result := setBit 0 (.reg .e) s

/-- SET 0,H (R254). -/
def execSet_0_H (s : State) : Result := setBit 0 (.reg .h) s

/-- SET 0,L (R254). -/
def execSet_0_L (s : State) : Result := setBit 0 (.reg .l) s

/-- SET 0,(HL) (R254). -/
def execSet_0_atHL (s : State) : Result := setBit 0 .atHL s

/-- SET 0,A (R254). -/
def execSet_0_A (s : State) : Result := setBit 0 (.reg .a) s

/-- SET 1,B (R254). -/
def execSet_1_B (s : State) : Result := setBit 1 (.reg .b) s

/-- SET 1,C (R254). -/
def execSet_1_C (s : State) : Result := setBit 1 (.reg .c) s

/-- SET 1,D (R254). -/
def execSet_1_D (s : State) : Result := setBit 1 (.reg .d) s

/-- SET 1,E (R254). -/
def execSet_1_E (s : State) : Result := setBit 1 (.reg .e) s

/-- SET 1,H (R254). -/
def execSet_1_H (s : State) : Result := setBit 1 (.reg .h) s

/-- SET 1,L (R254). -/
def execSet_1_L (s : State) : Result := setBit 1 (.reg .l) s

/-- SET 1,(HL) (R254). -/
def execSet_1_atHL (s : State) : Result := setBit 1 .atHL s

/-- SET 1,A (R254). -/
def execSet_1_A (s : State) : Result := setBit 1 (.reg .a) s

/-- SET 2,B (R254). -/
def execSet_2_B (s : State) : Result := setBit 2 (.reg .b) s

/-- SET 2,C (R254). -/
def execSet_2_C (s : State) : Result := setBit 2 (.reg .c) s

/-- SET 2,D (R254). -/
def execSet_2_D (s : State) : Result := setBit 2 (.reg .d) s

/-- SET 2,E (R254). -/
def execSet_2_E (s : State) : Result := setBit 2 (.reg .e) s

/-- SET 2,H (R254). -/
def execSet_2_H (s : State) : Result := setBit 2 (.reg .h) s

/-- SET 2,L (R254). -/
def execSet_2_L (s : State) : Result := setBit 2 (.reg .l) s

/-- SET 2,(HL) (R254). -/
def execSet_2_atHL (s : State) : Result := setBit 2 .atHL s

/-- SET 2,A (R254). -/
def execSet_2_A (s : State) : Result := setBit 2 (.reg .a) s

/-- SET 3,B (R254). -/
def execSet_3_B (s : State) : Result := setBit 3 (.reg .b) s

/-- SET 3,C (R254). -/
def execSet_3_C (s : State) : Result := setBit 3 (.reg .c) s

/-- SET 3,D (R254). -/
def execSet_3_D (s : State) : Result := setBit 3 (.reg .d) s

/-- SET 3,E (R254). -/
def execSet_3_E (s : State) : Result := setBit 3 (.reg .e) s

/-- SET 3,H (R254). -/
def execSet_3_H (s : State) : Result := setBit 3 (.reg .h) s

/-- SET 3,L (R254). -/
def execSet_3_L (s : State) : Result := setBit 3 (.reg .l) s

/-- SET 3,(HL) (R254). -/
def execSet_3_atHL (s : State) : Result := setBit 3 .atHL s

/-- SET 3,A (R254). -/
def execSet_3_A (s : State) : Result := setBit 3 (.reg .a) s

/-- SET 4,B (R254). -/
def execSet_4_B (s : State) : Result := setBit 4 (.reg .b) s

/-- SET 4,C (R254). -/
def execSet_4_C (s : State) : Result := setBit 4 (.reg .c) s

/-- SET 4,D (R254). -/
def execSet_4_D (s : State) : Result := setBit 4 (.reg .d) s

/-- SET 4,E (R254). -/
def execSet_4_E (s : State) : Result := setBit 4 (.reg .e) s

/-- SET 4,H (R254). -/
def execSet_4_H (s : State) : Result := setBit 4 (.reg .h) s

/-- SET 4,L (R254). -/
def execSet_4_L (s : State) : Result := setBit 4 (.reg .l) s

/-- SET 4,(HL) (R254). -/
def execSet_4_atHL (s : State) : Result := setBit 4 .atHL s

/-- SET 4,A (R254). -/
def execSet_4_A (s : State) : Result := setBit 4 (.reg .a) s

/-- SET 5,B (R254). -/
def execSet_5_B (s : State) : Result := setBit 5 (.reg .b) s

/-- SET 5,C (R254). -/
def execSet_5_C (s : State) : Result := setBit 5 (.reg .c) s

/-- SET 5,D (R254). -/
def execSet_5_D (s : State) : Result := setBit 5 (.reg .d) s

/-- SET 5,E (R254). -/
def execSet_5_E (s : State) : Result := setBit 5 (.reg .e) s

/-- SET 5,H (R254). -/
def execSet_5_H (s : State) : Result := setBit 5 (.reg .h) s

/-- SET 5,L (R254). -/
def execSet_5_L (s : State) : Result := setBit 5 (.reg .l) s

/-- SET 5,(HL) (R254). -/
def execSet_5_atHL (s : State) : Result := setBit 5 .atHL s

/-- SET 5,A (R254). -/
def execSet_5_A (s : State) : Result := setBit 5 (.reg .a) s

/-- SET 6,B (R254). -/
def execSet_6_B (s : State) : Result := setBit 6 (.reg .b) s

/-- SET 6,C (R254). -/
def execSet_6_C (s : State) : Result := setBit 6 (.reg .c) s

/-- SET 6,D (R254). -/
def execSet_6_D (s : State) : Result := setBit 6 (.reg .d) s

/-- SET 6,E (R254). -/
def execSet_6_E (s : State) : Result := setBit 6 (.reg .e) s

/-- SET 6,H (R254). -/
def execSet_6_H (s : State) : Result := setBit 6 (.reg .h) s

/-- SET 6,L (R254). -/
def execSet_6_L (s : State) : Result := setBit 6 (.reg .l) s

/-- SET 6,(HL) (R254). -/
def execSet_6_atHL (s : State) : Result := setBit 6 .atHL s

/-- SET 6,A (R254). -/
def execSet_6_A (s : State) : Result := setBit 6 (.reg .a) s

/-- SET 7,B (R254). -/
def execSet_7_B (s : State) : Result := setBit 7 (.reg .b) s

/-- SET 7,C (R254). -/
def execSet_7_C (s : State) : Result := setBit 7 (.reg .c) s

/-- SET 7,D (R254). -/
def execSet_7_D (s : State) : Result := setBit 7 (.reg .d) s

/-- SET 7,E (R254). -/
def execSet_7_E (s : State) : Result := setBit 7 (.reg .e) s

/-- SET 7,H (R254). -/
def execSet_7_H (s : State) : Result := setBit 7 (.reg .h) s

/-- SET 7,L (R254). -/
def execSet_7_L (s : State) : Result := setBit 7 (.reg .l) s

/-- SET 7,(HL) (R254). -/
def execSet_7_atHL (s : State) : Result := setBit 7 .atHL s

/-- SET 7,A (R254). -/
def execSet_7_A (s : State) : Result := setBit 7 (.reg .a) s

end Sys2Proof.Machine
end

