-- ==== Sys2Proof/Machine/Control.lean ====
section
/-! DEFINITION. Jumps, calls, returns and restarts (44_control.md). PC is the address of the next
instruction: every immediate has been fetched, taken or not. No flag is written. -/

namespace Sys2Proof.Machine

/-! ## The shapes -/

/-- JP a16 (R271). -/
def jump (a : Word) (s : State) : Result := .next ((s.setPc a).charge 16)

/-- JP cc,a16 (R272). -/
def jumpIf (cc : Cond) (a : Word) (s : State) : Result :=
  if s.cond cc then .next ((s.setPc a).charge 16) else .next (s.charge 12)

/-- JP HL (R273). -/
def jumpHl (s : State) : Result := .next ((s.setPc s.hl).charge 4)

/-- JR e8 (R274). -/
def jumpRelative (e : Byte) (s : State) : Result :=
  .next ((s.setPc (s.cpu.pc + sext16 e)).charge 12)

/-- JR cc,e8 (R275). -/
def jumpRelativeIf (cc : Cond) (e : Byte) (s : State) : Result :=
  if s.cond cc then .next ((s.setPc (s.cpu.pc + sext16 e)).charge 12) else .next (s.charge 8)

/-- CALL a16 (R276). -/
def call (a : Word) (s : State) : Result := .next (((s.push16 s.cpu.pc).setPc a).charge 24)

/-- CALL cc,a16 (R277). -/
def callIf (cc : Cond) (a : Word) (s : State) : Result :=
  if s.cond cc then .next (((s.push16 s.cpu.pc).setPc a).charge 24) else .next (s.charge 12)

/-- RET (R278). -/
def ret (s : State) : Result := .next (s.returnFromCall.charge 16)

/-- RET cc (R279). -/
def retIf (cc : Cond) (s : State) : Result :=
  if s.cond cc then .next (s.returnFromCall.charge 20) else .next (s.charge 8)

/-- RETI (R280). -/
def reti (s : State) : Result := .next (s.returnFromInterrupt.charge 16)

/-- RST t (R281). -/
def restart (t : Word) (s : State) : Result := .next (((s.push16 s.cpu.pc).setPc t).charge 16)

/-! ## The instructions -/

/-- JR e8 (R274). -/
def execJr_e8 (e8 : Byte) (s : State) : Result := jumpRelative e8 s

/-- JR NZ,e8 (R275). -/
def execJr_NZ_e8 (e8 : Byte) (s : State) : Result := jumpRelativeIf .nz e8 s

/-- JR Z,e8 (R275). -/
def execJr_Z_e8 (e8 : Byte) (s : State) : Result := jumpRelativeIf .z e8 s

/-- JR NC,e8 (R275). -/
def execJr_NC_e8 (e8 : Byte) (s : State) : Result := jumpRelativeIf .nc e8 s

/-- JR C,e8 (R275). -/
def execJr_C_e8 (e8 : Byte) (s : State) : Result := jumpRelativeIf .c e8 s

/-- RET NZ (R279). -/
def execRet_NZ (s : State) : Result := retIf .nz s

/-- JP NZ,a16 (R272). -/
def execJp_NZ_a16 (a16 : Word) (s : State) : Result := jumpIf .nz a16 s

/-- JP a16 (R271). -/
def execJp_a16 (a16 : Word) (s : State) : Result := jump a16 s

/-- CALL NZ,a16 (R277). -/
def execCall_NZ_a16 (a16 : Word) (s : State) : Result := callIf .nz a16 s

/-- RST 00H (R281). -/
def execRst_00H (s : State) : Result := restart 0x00#16 s

/-- RET Z (R279). -/
def execRet_Z (s : State) : Result := retIf .z s

/-- RET (R278). -/
def execRet (s : State) : Result := ret s

/-- JP Z,a16 (R272). -/
def execJp_Z_a16 (a16 : Word) (s : State) : Result := jumpIf .z a16 s

/-- CALL Z,a16 (R277). -/
def execCall_Z_a16 (a16 : Word) (s : State) : Result := callIf .z a16 s

/-- CALL a16 (R276). -/
def execCall_a16 (a16 : Word) (s : State) : Result := call a16 s

/-- RST 08H (R281). -/
def execRst_08H (s : State) : Result := restart 0x08#16 s

/-- RET NC (R279). -/
def execRet_NC (s : State) : Result := retIf .nc s

/-- JP NC,a16 (R272). -/
def execJp_NC_a16 (a16 : Word) (s : State) : Result := jumpIf .nc a16 s

/-- CALL NC,a16 (R277). -/
def execCall_NC_a16 (a16 : Word) (s : State) : Result := callIf .nc a16 s

/-- RST 10H (R281). -/
def execRst_10H (s : State) : Result := restart 0x10#16 s

/-- RET C (R279). -/
def execRet_C (s : State) : Result := retIf .c s

/-- RETI (R280). -/
def execReti (s : State) : Result := reti s

/-- JP C,a16 (R272). -/
def execJp_C_a16 (a16 : Word) (s : State) : Result := jumpIf .c a16 s

/-- CALL C,a16 (R277). -/
def execCall_C_a16 (a16 : Word) (s : State) : Result := callIf .c a16 s

/-- RST 18H (R281). -/
def execRst_18H (s : State) : Result := restart 0x18#16 s

/-- RST 20H (R281). -/
def execRst_20H (s : State) : Result := restart 0x20#16 s

/-- JP HL (R273). -/
def execJp_HL (s : State) : Result := jumpHl s

/-- RST 28H (R281). -/
def execRst_28H (s : State) : Result := restart 0x28#16 s

/-- RST 30H (R281). -/
def execRst_30H (s : State) : Result := restart 0x30#16 s

/-- RST 38H (R281). -/
def execRst_38H (s : State) : Result := restart 0x38#16 s

end Sys2Proof.Machine
end

