-- ==== Sys2Proof/Machine/Load.lean ====
section
/-! DEFINITION. Loads, stores and stack transfers (40_load.md). No flag is written but by POP AF. The
PC has moved past the instruction's bytes before a meaning runs (30_encoding.md R131). -/

namespace Sys2Proof.Machine

/-! ## The shapes -/

/-- `x[r] <- x[r']` (R160). -/
def loadReg (r r' : Reg8) (s : State) : Result := .next ((s.setReg8 r (s.reg8 r')).charge 4)

/-- `x[r] <- n` (R161). -/
def loadRegImm (r : Reg8) (n : Byte) (s : State) : Result := .next ((s.setReg8 r n).charge 8)

/-- `x[r] <- MemRead(x[HL], 1)` (R162). -/
def loadRegMem (r : Reg8) (s : State) : Result := .next ((s.setReg8 r (s.memRead s.hl)).charge 8)

/-- `MemWrite(x[HL], 1, x[r])` (R163). -/
def storeReg (r : Reg8) (s : State) : Result := .next ((s.memWrite s.hl (s.reg8 r)).charge 8)

/-- `MemWrite(x[HL], 1, n)` (R164). -/
def storeImm (n : Byte) (s : State) : Result := .next ((s.memWrite s.hl n).charge 12)

/-- `x[A] <- MemRead(addr, 1)`, of cost `t` (R165, R166, R169, R171, R173). -/
def loadA (addr : Word) (t : Nat) (s : State) : Result := .next ((s.setA (s.memRead addr)).charge t)

/-- `MemWrite(addr, 1, x[A])`, of cost `t` (R167, R168, R170, R172, R174). -/
def storeA (addr : Word) (t : Nat) (s : State) : Result := .next ((s.memWrite addr s.cpu.a).charge t)

/-- `x[A] <- MemRead(x[HL], 1)`, then HL takes `hl'` (R177, R178). -/
def loadAStep (hl' : Word) (s : State) : Result :=
  .next (((s.setA (s.memRead s.hl)).setHl hl').charge 8)

/-- `MemWrite(x[HL], 1, x[A])`, then HL takes `hl'` (R175, R176). -/
def storeAStep (hl' : Word) (s : State) : Result :=
  .next (((s.memWrite s.hl s.cpu.a).setHl hl').charge 8)

/-- `x[rr] <- n` (R180). -/
def loadPairImm (rr : RR) (n : Word) (s : State) : Result := .next ((s.writeRR rr n).charge 12)

/-- `MemWrite(a, 2, SP)` (R184). -/
def storeSp (a : Word) (s : State) : Result := .next ((s.memWrite16 a s.cpu.sp).charge 20)

/-- `SP <- x[HL]` (R185). -/
def loadSpHl (s : State) : Result := .next ((s.setSp s.hl).charge 8)

/-- `push16(x[rr])` (R191). -/
def pushPair (rr : StackRR) (s : State) : Result := .next ((s.push16 (s.readStackRR rr)).charge 16)

/-- `x[rr] <- pop16()` (R192, R193). -/
def popPair (rr : StackRR) (s : State) : Result :=
  .next ((s.drop16.writeStackRR rr s.top16).charge 12)

/-! ## The instructions -/

/-- LD BC,d16 (R180). -/
def execLd_BC_d16 (d16 : Word) (s : State) : Result := loadPairImm .bc d16 s

/-- LD (BC),A (R167). -/
def execLd_atBC_A (s : State) : Result := storeA s.bc 8 s

/-- LD B,d8 (R161). -/
def execLd_B_d8 (d8 : Byte) (s : State) : Result := loadRegImm .b d8 s

/-- LD (a16),SP (R184). -/
def execLd_ata16_SP (a16 : Word) (s : State) : Result := storeSp a16 s

/-- LD A,(BC) (R165). -/
def execLd_A_atBC (s : State) : Result := loadA s.bc 8 s

/-- LD C,d8 (R161). -/
def execLd_C_d8 (d8 : Byte) (s : State) : Result := loadRegImm .c d8 s

/-- LD DE,d16 (R180). -/
def execLd_DE_d16 (d16 : Word) (s : State) : Result := loadPairImm .de d16 s

/-- LD (DE),A (R168). -/
def execLd_atDE_A (s : State) : Result := storeA s.de 8 s

/-- LD D,d8 (R161). -/
def execLd_D_d8 (d8 : Byte) (s : State) : Result := loadRegImm .d d8 s

/-- LD A,(DE) (R166). -/
def execLd_A_atDE (s : State) : Result := loadA s.de 8 s

/-- LD E,d8 (R161). -/
def execLd_E_d8 (d8 : Byte) (s : State) : Result := loadRegImm .e d8 s

/-- LD HL,d16 (R180). -/
def execLd_HL_d16 (d16 : Word) (s : State) : Result := loadPairImm .hl d16 s

/-- LD (HL+),A (R175). -/
def execLd_atHLi_A (s : State) : Result := storeAStep (s.hl + 1#16) s

/-- LD H,d8 (R161). -/
def execLd_H_d8 (d8 : Byte) (s : State) : Result := loadRegImm .h d8 s

/-- LD A,(HL+) (R177). -/
def execLd_A_atHLi (s : State) : Result := loadAStep (s.hl + 1#16) s

/-- LD L,d8 (R161). -/
def execLd_L_d8 (d8 : Byte) (s : State) : Result := loadRegImm .l d8 s

/-- LD SP,d16 (R180). -/
def execLd_SP_d16 (d16 : Word) (s : State) : Result := loadPairImm .sp d16 s

/-- LD (HL-),A (R176). -/
def execLd_atHLd_A (s : State) : Result := storeAStep (s.hl - 1#16) s

/-- LD (HL),d8 (R164). -/
def execLd_atHL_d8 (d8 : Byte) (s : State) : Result := storeImm d8 s

/-- LD A,(HL-) (R178). -/
def execLd_A_atHLd (s : State) : Result := loadAStep (s.hl - 1#16) s

/-- LD A,d8 (R161). -/
def execLd_A_d8 (d8 : Byte) (s : State) : Result := loadRegImm .a d8 s

/-- LD B,B (R160). -/
def execLd_B_B (s : State) : Result := loadReg .b .b s

/-- LD B,C (R160). -/
def execLd_B_C (s : State) : Result := loadReg .b .c s

/-- LD B,D (R160). -/
def execLd_B_D (s : State) : Result := loadReg .b .d s

/-- LD B,E (R160). -/
def execLd_B_E (s : State) : Result := loadReg .b .e s

/-- LD B,H (R160). -/
def execLd_B_H (s : State) : Result := loadReg .b .h s

/-- LD B,L (R160). -/
def execLd_B_L (s : State) : Result := loadReg .b .l s

/-- LD B,(HL) (R162). -/
def execLd_B_atHL (s : State) : Result := loadRegMem .b s

/-- LD B,A (R160). -/
def execLd_B_A (s : State) : Result := loadReg .b .a s

/-- LD C,B (R160). -/
def execLd_C_B (s : State) : Result := loadReg .c .b s

/-- LD C,C (R160). -/
def execLd_C_C (s : State) : Result := loadReg .c .c s

/-- LD C,D (R160). -/
def execLd_C_D (s : State) : Result := loadReg .c .d s

/-- LD C,E (R160). -/
def execLd_C_E (s : State) : Result := loadReg .c .e s

/-- LD C,H (R160). -/
def execLd_C_H (s : State) : Result := loadReg .c .h s

/-- LD C,L (R160). -/
def execLd_C_L (s : State) : Result := loadReg .c .l s

/-- LD C,(HL) (R162). -/
def execLd_C_atHL (s : State) : Result := loadRegMem .c s

/-- LD C,A (R160). -/
def execLd_C_A (s : State) : Result := loadReg .c .a s

/-- LD D,B (R160). -/
def execLd_D_B (s : State) : Result := loadReg .d .b s

/-- LD D,C (R160). -/
def execLd_D_C (s : State) : Result := loadReg .d .c s

/-- LD D,D (R160). -/
def execLd_D_D (s : State) : Result := loadReg .d .d s

/-- LD D,E (R160). -/
def execLd_D_E (s : State) : Result := loadReg .d .e s

/-- LD D,H (R160). -/
def execLd_D_H (s : State) : Result := loadReg .d .h s

/-- LD D,L (R160). -/
def execLd_D_L (s : State) : Result := loadReg .d .l s

/-- LD D,(HL) (R162). -/
def execLd_D_atHL (s : State) : Result := loadRegMem .d s

/-- LD D,A (R160). -/
def execLd_D_A (s : State) : Result := loadReg .d .a s

/-- LD E,B (R160). -/
def execLd_E_B (s : State) : Result := loadReg .e .b s

/-- LD E,C (R160). -/
def execLd_E_C (s : State) : Result := loadReg .e .c s

/-- LD E,D (R160). -/
def execLd_E_D (s : State) : Result := loadReg .e .d s

/-- LD E,E (R160). -/
def execLd_E_E (s : State) : Result := loadReg .e .e s

/-- LD E,H (R160). -/
def execLd_E_H (s : State) : Result := loadReg .e .h s

/-- LD E,L (R160). -/
def execLd_E_L (s : State) : Result := loadReg .e .l s

/-- LD E,(HL) (R162). -/
def execLd_E_atHL (s : State) : Result := loadRegMem .e s

/-- LD E,A (R160). -/
def execLd_E_A (s : State) : Result := loadReg .e .a s

/-- LD H,B (R160). -/
def execLd_H_B (s : State) : Result := loadReg .h .b s

/-- LD H,C (R160). -/
def execLd_H_C (s : State) : Result := loadReg .h .c s

/-- LD H,D (R160). -/
def execLd_H_D (s : State) : Result := loadReg .h .d s

/-- LD H,E (R160). -/
def execLd_H_E (s : State) : Result := loadReg .h .e s

/-- LD H,H (R160). -/
def execLd_H_H (s : State) : Result := loadReg .h .h s

/-- LD H,L (R160). -/
def execLd_H_L (s : State) : Result := loadReg .h .l s

/-- LD H,(HL) (R162). -/
def execLd_H_atHL (s : State) : Result := loadRegMem .h s

/-- LD H,A (R160). -/
def execLd_H_A (s : State) : Result := loadReg .h .a s

/-- LD L,B (R160). -/
def execLd_L_B (s : State) : Result := loadReg .l .b s

/-- LD L,C (R160). -/
def execLd_L_C (s : State) : Result := loadReg .l .c s

/-- LD L,D (R160). -/
def execLd_L_D (s : State) : Result := loadReg .l .d s

/-- LD L,E (R160). -/
def execLd_L_E (s : State) : Result := loadReg .l .e s

/-- LD L,H (R160). -/
def execLd_L_H (s : State) : Result := loadReg .l .h s

/-- LD L,L (R160). -/
def execLd_L_L (s : State) : Result := loadReg .l .l s

/-- LD L,(HL) (R162). -/
def execLd_L_atHL (s : State) : Result := loadRegMem .l s

/-- LD L,A (R160). -/
def execLd_L_A (s : State) : Result := loadReg .l .a s

/-- LD (HL),B (R163). -/
def execLd_atHL_B (s : State) : Result := storeReg .b s

/-- LD (HL),C (R163). -/
def execLd_atHL_C (s : State) : Result := storeReg .c s

/-- LD (HL),D (R163). -/
def execLd_atHL_D (s : State) : Result := storeReg .d s

/-- LD (HL),E (R163). -/
def execLd_atHL_E (s : State) : Result := storeReg .e s

/-- LD (HL),H (R163). -/
def execLd_atHL_H (s : State) : Result := storeReg .h s

/-- LD (HL),L (R163). -/
def execLd_atHL_L (s : State) : Result := storeReg .l s

/-- LD (HL),A (R163). -/
def execLd_atHL_A (s : State) : Result := storeReg .a s

/-- LD A,B (R160). -/
def execLd_A_B (s : State) : Result := loadReg .a .b s

/-- LD A,C (R160). -/
def execLd_A_C (s : State) : Result := loadReg .a .c s

/-- LD A,D (R160). -/
def execLd_A_D (s : State) : Result := loadReg .a .d s

/-- LD A,E (R160). -/
def execLd_A_E (s : State) : Result := loadReg .a .e s

/-- LD A,H (R160). -/
def execLd_A_H (s : State) : Result := loadReg .a .h s

/-- LD A,L (R160). -/
def execLd_A_L (s : State) : Result := loadReg .a .l s

/-- LD A,(HL) (R162). -/
def execLd_A_atHL (s : State) : Result := loadRegMem .a s

/-- LD A,A (R160). -/
def execLd_A_A (s : State) : Result := loadReg .a .a s

/-- POP BC (R193). -/
def execPop_BC (s : State) : Result := popPair .bc s

/-- PUSH BC (R191). -/
def execPush_BC (s : State) : Result := pushPair .bc s

/-- POP DE (R193). -/
def execPop_DE (s : State) : Result := popPair .de s

/-- PUSH DE (R191). -/
def execPush_DE (s : State) : Result := pushPair .de s

/-- LDH (a8),A (R172). -/
def execLdh_ata8_A (a8 : Byte) (s : State) : Result := storeA (highPage a8) 12 s

/-- POP HL (R193). -/
def execPop_HL (s : State) : Result := popPair .hl s

/-- LD (C),A (R174). -/
def execLd_atC_A (s : State) : Result := storeA (highPage s.cpu.c) 8 s

/-- PUSH HL (R191). -/
def execPush_HL (s : State) : Result := pushPair .hl s

/-- LD (a16),A (R170). -/
def execLd_ata16_A (a16 : Word) (s : State) : Result := storeA a16 16 s

/-- LDH A,(a8) (R171). -/
def execLdh_A_ata8 (a8 : Byte) (s : State) : Result := loadA (highPage a8) 12 s

/-- POP AF (R192). -/
def execPop_AF (s : State) : Result := popPair .af s

/-- LD A,(C) (R173). -/
def execLd_A_atC (s : State) : Result := loadA (highPage s.cpu.c) 8 s

/-- PUSH AF (R191). -/
def execPush_AF (s : State) : Result := pushPair .af s

/-- LD SP,HL (R185). -/
def execLd_SP_HL (s : State) : Result := loadSpHl s

/-- LD A,(a16) (R169). -/
def execLd_A_ata16 (a16 : Word) (s : State) : Result := loadA a16 16 s

end Sys2Proof.Machine
end

