-- ==== Sys2Proof/Machine/System.lean ====
section
/-! DEFINITION. CPU control and the eleven unused opcodes (45_system.md). -/

namespace Sys2Proof.Machine

/-! ## The shapes -/

/-- NOP (R290). -/
def noOperation (s : State) : Result := .next (s.charge 4)

/-- HALT: it halts, or sets the HALT bug (R292). -/
def haltCpu (s : State) : Result :=
  if !s.cpu.ime && decide (s.pending ≠ 0#5) then .next ({ s with cpu.haltBug := true }.charge 4)
  else .next ({ s with cpu.halted := true }.charge 4)

/-- STOP: the timer counter is reset as by a DIV write (R293). -/
def stopCpu (s : State) : Result :=
  .next ({ s with timer := s.timer.resetCounter, cpu.stopped := true }.charge 4)

/-- DI: at once, and it cancels a pending enable (R294). -/
def disableInterrupts (s : State) : Result :=
  .next ({ s with cpu.ime := false, cpu.eiPending := false }.charge 4)

/-- EI: IME is set at the end of the next instruction (R295). -/
def enableInterrupts (s : State) : Result := .next ({ s with cpu.eiPending := true }.charge 4)

/-- An unused opcode: the fault is recorded, and no time passes (R300). -/
def illegal (op : Byte) (s : State) : Result := .next (s.raiseIllegal op)

/-! ## The instructions -/

/-- NOP (R290). -/
def execNop (s : State) : Result := noOperation s

/-- STOP (R293). -/
def execStop (_ : Byte) (s : State) : Result := stopCpu s

/-- HALT (R292). -/
def execHalt (s : State) : Result := haltCpu s

/-- ILLEGAL 0xD3 (R300). -/
def execIllegal_D3 (s : State) : Result := illegal 0xD3#8 s

/-- ILLEGAL 0xDB (R300). -/
def execIllegal_DB (s : State) : Result := illegal 0xDB#8 s

/-- ILLEGAL 0xDD (R300). -/
def execIllegal_DD (s : State) : Result := illegal 0xDD#8 s

/-- ILLEGAL 0xE3 (R300). -/
def execIllegal_E3 (s : State) : Result := illegal 0xE3#8 s

/-- ILLEGAL 0xE4 (R300). -/
def execIllegal_E4 (s : State) : Result := illegal 0xE4#8 s

/-- ILLEGAL 0xEB (R300). -/
def execIllegal_EB (s : State) : Result := illegal 0xEB#8 s

/-- ILLEGAL 0xEC (R300). -/
def execIllegal_EC (s : State) : Result := illegal 0xEC#8 s

/-- ILLEGAL 0xED (R300). -/
def execIllegal_ED (s : State) : Result := illegal 0xED#8 s

/-- DI (R294). -/
def execDi (s : State) : Result := disableInterrupts s

/-- ILLEGAL 0xF4 (R300). -/
def execIllegal_F4 (s : State) : Result := illegal 0xF4#8 s

/-- EI (R295). -/
def execEi (s : State) : Result := enableInterrupts s

/-- ILLEGAL 0xFC (R300). -/
def execIllegal_FC (s : State) : Result := illegal 0xFC#8 s

/-- ILLEGAL 0xFD (R300). -/
def execIllegal_FD (s : State) : Result := illegal 0xFD#8 s

end Sys2Proof.Machine
end

