-- ==== Sys2Proof/Machine/MachineStep.lean ====
section
/-! DEFINITION. The CPU step and the machine step (60_exceptions.md R310-R313). -/

namespace Sys2Proof.Machine

/-- What a step returns beside the state it leaves (60_exceptions.md R310). -/
inductive StepResult where
  /-- The step took `t` T-cycles. -/
  | ok (t : Nat)
  | fault (f : Fault)
  | refused (r : Refusal)
deriving DecidableEq, Repr

/-- The delayed enable of EI, applied after the instruction that follows it (60_exceptions.md
R312). -/
def State.applyEi (s : State) (wasPending : Bool) : State :=
  if wasPending && s.cpu.eiPending then { s with cpu.ime := true, cpu.eiPending := false } else s

/-- Execute one instruction, with the delayed enable and the fault check that follow it
(60_exceptions.md R310). -/
def State.runInstr (s : State) : State × StepResult :=
  match exec s.fetchInstr.1 s.fetchInstr.2 with
  | .next s' =>
    match s'.cpu.fault with
    | some f => (s', .fault f)
    | none => (s'.applyEi s.cpu.eiPending, .ok s'.cpu.stepCost)
  | .fault f => (s, .fault f)
  | .refused r => (s, .refused r)

/-- An idle slot of HALT or STOP: 4 T-cycles, nothing changes (60_exceptions.md R311). -/
def State.idle (s : State) : State × StepResult := (s.charge 4, .ok 4)

/-- From where the CPU is awake: service an interrupt or execute an instruction (60_exceptions.md
R310, R322). -/
def State.serviceOrRun (s : State) : State × StepResult :=
  if s.cpu.ime && decide (s.pending ≠ 0#5) then (s.serviceInterrupt, .ok 20) else s.runInstr

/-- From where STOP is over: stay halted, or wake and go on (60_exceptions.md R310, R311). -/
def State.haltedOrAwake (s : State) : State × StepResult :=
  if s.cpu.halted && decide (s.pending = 0#5) then s.idle
  else State.serviceOrRun { s with cpu.halted := false }

/-- `cpu_step()` (60_exceptions.md R310). -/
def State.cpuStep (s : State) : State × StepResult :=
  match s.cpu.fault with
  | some f => (s, .fault f)
  | none =>
    if s.cpu.stopped && decide (s.joypad.lines = 0xF#4) then s.idle
    else State.haltedOrAwake { s with cpu.stopped := false }

/-- `machine_step()`: the CPU step, then the peripherals by its cost (60_exceptions.md R313). -/
def State.machineStep (s : State) : State × StepResult :=
  match s.cpuStep with
  | (s', .ok t) => (s'.advance t, .ok t)
  | r => r

/-- The outcome of a step, for Host/Core.lean: the state after it, or why it stops (log entry 5). -/
def StepResult.outcome (s : State) : StepResult → Result
  | .ok _ => .next s
  | .fault f => .fault f
  | .refused r => .refused r

end Sys2Proof.Machine
end

