-- ==== Sys2Proof/Machine/Loader.lean ====
section
/-! DEFINITION. Placing an instruction where the next step fetches it: the stand-in for a program
loaded from outside the machine (log entry 14). -/

namespace Sys2Proof.Machine

/-- Whether the byte at `addr` is a memory cell that a fetch reads back: ROM, VRAM, enabled external
RAM, WRAM, OAM or HRAM. -/
def State.storable (s : State) (addr : Word) : Bool :=
  match decodeAddr addr with
  | .cartRom _ => true
  | .vram _ => true
  | .cartRam off => (s.cart.ramOffset? off).isSome
  | .wram _ => true
  | .oam _ => true
  | .hram _ => true
  | .unusable => false
  | .io _ => false
  | .ie => false

/-- Store `v` in the memory cell at `addr` from outside the machine: a ROM cell takes it too, and
nothing else changes. -/
def State.poke (s : State) (addr : Word) (v : Byte) : State :=
  match decodeAddr addr with
  | .cartRom a => { s with cart.rom := s.cart.rom.write (s.cart.romOffset a) v }
  | .vram off => { s with vram := s.vram.write off v }
  | .cartRam off =>
    match s.cart.ramOffset? off with
    | some k => { s with cart.eram := s.cart.eram.write k v }
    | none => s
  | .wram off => { s with wram := s.wram.write off v }
  | .oam off => { s with oam := s.oam.write off v }
  | .hram off => { s with hram := s.hram.write off v }
  | .unusable => s
  | .io _ => s
  | .ie => s

/-- A state whose next step fetches at PC, whatever `s` was doing: awake, unfaulted, with no HALT bug,
no interrupt about to be serviced and no DMA block; PC is kept if three bytes can be stored there,
else it is the entry point 0x0100. -/
def State.readyToFetch (s : State) : State :=
  let s := { s with
    cpu.halted := false
    cpu.stopped := false
    cpu.haltBug := false
    cpu.fault := none
    cpu.ime := s.cpu.ime && decide (s.pending = 0#5)
    dma.active := false }
  let p := s.cpu.pc
  if s.storable p && s.storable (p + 1#16) && s.storable (p + 2#16) then s else s.setPc 0x0100#16

/-- Store three bytes from PC on. -/
def State.pokeAtPc (s : State) (b0 b1 b2 : Byte) : State :=
  let p := s.cpu.pc
  ((s.poke p b0).poke (p + 1#16) b1).poke (p + 2#16) b2

/-- Place an instruction's bytes where the next step fetches. -/
def State.placeInstruction (s : State) (bytes : List Byte) : State :=
  s.readyToFetch.pokeAtPc (bytes.getD 0 0#8) (bytes.getD 1 0#8) (bytes.getD 2 0#8)

end Sys2Proof.Machine
end

