-- ==== Sys2Proof/Machine/Step.lean ====
section
/-! DEFINITION. One step of the machine, and the instruction that the host places under it. -/

namespace Sys2Proof.Machine

/-- One machine step (60_exceptions.md R313): the state after it, or the recorded fault. -/
def step (s : State) : Host.Outcome State Fault Refusal := s.machineStep.2.outcome s.machineStep.1

/-- `s` with the instruction of the table bits `w` where `step` fetches next (log entry 14). -/
def State.withFetchWord (s : State) (nbits w : Nat) : State := s.placeInstruction (tableBytes nbits w)

end Sys2Proof.Machine
end

