-- ==== Sys2Proof/Machine/Forms.lean ====
section
/-! DEFINITION. The instructions by their operand fields: for each instruction of the spec, the
constructor that its fields select (30_encoding.md R133-R137, R140, R141). The statements are made
through these, so that they name every form. -/

namespace Sys2Proof

/-- The two-operand operations of 41_alu8.md, in the order of the `ooo` field (30_encoding.md
R140). -/
inductive AluOp where
  | add | adc | sub | sbc | and | xor | or | cp
deriving DecidableEq, Repr

/-- The operand `s` of a two-operand ALU instruction: r, (HL) or d8 (41_alu8.md). -/
inductive AluSrc where
  | r8 (k : R8)
  | imm (n : Byte)
deriving DecidableEq, Repr

/-- The CB rotates and shifts, in the order of the `ooo` field (30_encoding.md R141). -/
inductive RotOp where
  | rlc | rrc | rl | rr | sla | sra | swap | srl
deriving DecidableEq, Repr

/-- The r8 field's number (30_encoding.md R133). -/
def Reg8.code : Reg8 → Nat
  | .b => 0
  | .c => 1
  | .d => 2
  | .e => 3
  | .h => 4
  | .l => 5
  | .a => 7

/-- The r8 field's number (30_encoding.md R133). -/
def R8.code : R8 → Nat
  | .reg r => r.code
  | .atHL => 6

/-- The r16 field's number, group 1 (30_encoding.md R135). -/
def RR.code : RR → Nat
  | .bc => 0
  | .de => 1
  | .hl => 2
  | .sp => 3

/-- The r16 field's number, group 2 (30_encoding.md R135). -/
def StackRR.code : StackRR → Nat
  | .bc => 0
  | .de => 1
  | .hl => 2
  | .af => 3

/-- The condition field's number (30_encoding.md R136). -/
def Cond.code : Cond → Nat
  | .nz => 0
  | .z => 1
  | .nc => 2
  | .c => 3

/-- The `ooo` field's number (30_encoding.md R140). -/
def AluOp.code : AluOp → Nat
  | .add => 0
  | .adc => 1
  | .sub => 2
  | .sbc => 3
  | .and => 4
  | .xor => 5
  | .or => 6
  | .cp => 7

/-- The `ooo` field's number (30_encoding.md R141). -/
def RotOp.code : RotOp → Nat
  | .rlc => 0
  | .rrc => 1
  | .rl => 2
  | .rr => 3
  | .sla => 4
  | .sra => 5
  | .swap => 6
  | .srl => 7

/-- LD r,r' (40_load.md R160). -/
def Instr.loadReg : Reg8 → Reg8 → Instr
  | .b, .b => .ld_B_B
  | .b, .c => .ld_B_C
  | .b, .d => .ld_B_D
  | .b, .e => .ld_B_E
  | .b, .h => .ld_B_H
  | .b, .l => .ld_B_L
  | .b, .a => .ld_B_A
  | .c, .b => .ld_C_B
  | .c, .c => .ld_C_C
  | .c, .d => .ld_C_D
  | .c, .e => .ld_C_E
  | .c, .h => .ld_C_H
  | .c, .l => .ld_C_L
  | .c, .a => .ld_C_A
  | .d, .b => .ld_D_B
  | .d, .c => .ld_D_C
  | .d, .d => .ld_D_D
  | .d, .e => .ld_D_E
  | .d, .h => .ld_D_H
  | .d, .l => .ld_D_L
  | .d, .a => .ld_D_A
  | .e, .b => .ld_E_B
  | .e, .c => .ld_E_C
  | .e, .d => .ld_E_D
  | .e, .e => .ld_E_E
  | .e, .h => .ld_E_H
  | .e, .l => .ld_E_L
  | .e, .a => .ld_E_A
  | .h, .b => .ld_H_B
  | .h, .c => .ld_H_C
  | .h, .d => .ld_H_D
  | .h, .e => .ld_H_E
  | .h, .h => .ld_H_H
  | .h, .l => .ld_H_L
  | .h, .a => .ld_H_A
  | .l, .b => .ld_L_B
  | .l, .c => .ld_L_C
  | .l, .d => .ld_L_D
  | .l, .e => .ld_L_E
  | .l, .h => .ld_L_H
  | .l, .l => .ld_L_L
  | .l, .a => .ld_L_A
  | .a, .b => .ld_A_B
  | .a, .c => .ld_A_C
  | .a, .d => .ld_A_D
  | .a, .e => .ld_A_E
  | .a, .h => .ld_A_H
  | .a, .l => .ld_A_L
  | .a, .a => .ld_A_A

/-- LD r,d8 (40_load.md R161). -/
def Instr.loadRegImm : Reg8 → Byte → Instr
  | .b, n => .ld_B_d8 n
  | .c, n => .ld_C_d8 n
  | .d, n => .ld_D_d8 n
  | .e, n => .ld_E_d8 n
  | .h, n => .ld_H_d8 n
  | .l, n => .ld_L_d8 n
  | .a, n => .ld_A_d8 n

/-- LD r,(HL) (40_load.md R162). -/
def Instr.loadRegMem : Reg8 → Instr
  | .b => .ld_B_atHL
  | .c => .ld_C_atHL
  | .d => .ld_D_atHL
  | .e => .ld_E_atHL
  | .h => .ld_H_atHL
  | .l => .ld_L_atHL
  | .a => .ld_A_atHL

/-- LD (HL),r (40_load.md R163). -/
def Instr.storeReg : Reg8 → Instr
  | .b => .ld_atHL_B
  | .c => .ld_atHL_C
  | .d => .ld_atHL_D
  | .e => .ld_atHL_E
  | .h => .ld_atHL_H
  | .l => .ld_atHL_L
  | .a => .ld_atHL_A

/-- LD rr,d16 (40_load.md R180). -/
def Instr.loadPair : RR → Word → Instr
  | .bc, n => .ld_BC_d16 n
  | .de, n => .ld_DE_d16 n
  | .hl, n => .ld_HL_d16 n
  | .sp, n => .ld_SP_d16 n

/-- PUSH rr (40_load.md R191). -/
def Instr.push : StackRR → Instr
  | .bc => .push_BC
  | .de => .push_DE
  | .hl => .push_HL
  | .af => .push_AF

/-- POP rr (40_load.md R192, R193). -/
def Instr.pop : StackRR → Instr
  | .bc => .pop_BC
  | .de => .pop_DE
  | .hl => .pop_HL
  | .af => .pop_AF

/-- The two-operand ALU instructions (41_alu8.md R200-R207). -/
def Instr.alu : AluOp → AluSrc → Instr
  | .add, .r8 (.reg .b) => .add_A_B
  | .add, .r8 (.reg .c) => .add_A_C
  | .add, .r8 (.reg .d) => .add_A_D
  | .add, .r8 (.reg .e) => .add_A_E
  | .add, .r8 (.reg .h) => .add_A_H
  | .add, .r8 (.reg .l) => .add_A_L
  | .add, .r8 (.reg .a) => .add_A_A
  | .add, .r8 .atHL => .add_A_atHL
  | .add, .imm n => .add_A_d8 n
  | .adc, .r8 (.reg .b) => .adc_A_B
  | .adc, .r8 (.reg .c) => .adc_A_C
  | .adc, .r8 (.reg .d) => .adc_A_D
  | .adc, .r8 (.reg .e) => .adc_A_E
  | .adc, .r8 (.reg .h) => .adc_A_H
  | .adc, .r8 (.reg .l) => .adc_A_L
  | .adc, .r8 (.reg .a) => .adc_A_A
  | .adc, .r8 .atHL => .adc_A_atHL
  | .adc, .imm n => .adc_A_d8 n
  | .sub, .r8 (.reg .b) => .sub_B
  | .sub, .r8 (.reg .c) => .sub_C
  | .sub, .r8 (.reg .d) => .sub_D
  | .sub, .r8 (.reg .e) => .sub_E
  | .sub, .r8 (.reg .h) => .sub_H
  | .sub, .r8 (.reg .l) => .sub_L
  | .sub, .r8 (.reg .a) => .sub_A
  | .sub, .r8 .atHL => .sub_atHL
  | .sub, .imm n => .sub_d8 n
  | .sbc, .r8 (.reg .b) => .sbc_A_B
  | .sbc, .r8 (.reg .c) => .sbc_A_C
  | .sbc, .r8 (.reg .d) => .sbc_A_D
  | .sbc, .r8 (.reg .e) => .sbc_A_E
  | .sbc, .r8 (.reg .h) => .sbc_A_H
  | .sbc, .r8 (.reg .l) => .sbc_A_L
  | .sbc, .r8 (.reg .a) => .sbc_A_A
  | .sbc, .r8 .atHL => .sbc_A_atHL
  | .sbc, .imm n => .sbc_A_d8 n
  | .and, .r8 (.reg .b) => .and_B
  | .and, .r8 (.reg .c) => .and_C
  | .and, .r8 (.reg .d) => .and_D
  | .and, .r8 (.reg .e) => .and_E
  | .and, .r8 (.reg .h) => .and_H
  | .and, .r8 (.reg .l) => .and_L
  | .and, .r8 (.reg .a) => .and_A
  | .and, .r8 .atHL => .and_atHL
  | .and, .imm n => .and_d8 n
  | .xor, .r8 (.reg .b) => .xor_B
  | .xor, .r8 (.reg .c) => .xor_C
  | .xor, .r8 (.reg .d) => .xor_D
  | .xor, .r8 (.reg .e) => .xor_E
  | .xor, .r8 (.reg .h) => .xor_H
  | .xor, .r8 (.reg .l) => .xor_L
  | .xor, .r8 (.reg .a) => .xor_A
  | .xor, .r8 .atHL => .xor_atHL
  | .xor, .imm n => .xor_d8 n
  | .or, .r8 (.reg .b) => .or_B
  | .or, .r8 (.reg .c) => .or_C
  | .or, .r8 (.reg .d) => .or_D
  | .or, .r8 (.reg .e) => .or_E
  | .or, .r8 (.reg .h) => .or_H
  | .or, .r8 (.reg .l) => .or_L
  | .or, .r8 (.reg .a) => .or_A
  | .or, .r8 .atHL => .or_atHL
  | .or, .imm n => .or_d8 n
  | .cp, .r8 (.reg .b) => .cp_B
  | .cp, .r8 (.reg .c) => .cp_C
  | .cp, .r8 (.reg .d) => .cp_D
  | .cp, .r8 (.reg .e) => .cp_E
  | .cp, .r8 (.reg .h) => .cp_H
  | .cp, .r8 (.reg .l) => .cp_L
  | .cp, .r8 (.reg .a) => .cp_A
  | .cp, .r8 .atHL => .cp_atHL
  | .cp, .imm n => .cp_d8 n

/-- INC r and INC (HL) (41_alu8.md R208, R209). -/
def Instr.inc : R8 → Instr
  | .reg .b => .inc_B
  | .reg .c => .inc_C
  | .reg .d => .inc_D
  | .reg .e => .inc_E
  | .reg .h => .inc_H
  | .reg .l => .inc_L
  | .reg .a => .inc_A
  | .atHL => .inc_atHL

/-- DEC r and DEC (HL) (41_alu8.md R210, R211). -/
def Instr.dec : R8 → Instr
  | .reg .b => .dec_B
  | .reg .c => .dec_C
  | .reg .d => .dec_D
  | .reg .e => .dec_E
  | .reg .h => .dec_H
  | .reg .l => .dec_L
  | .reg .a => .dec_A
  | .atHL => .dec_atHL

/-- ADD HL,rr (42_alu16.md R230). -/
def Instr.addHl : RR → Instr
  | .bc => .add_HL_BC
  | .de => .add_HL_DE
  | .hl => .add_HL_HL
  | .sp => .add_HL_SP

/-- INC rr (42_alu16.md R231). -/
def Instr.incPair : RR → Instr
  | .bc => .inc_BC
  | .de => .inc_DE
  | .hl => .inc_HL
  | .sp => .inc_SP

/-- DEC rr (42_alu16.md R232). -/
def Instr.decPair : RR → Instr
  | .bc => .dec_BC
  | .de => .dec_DE
  | .hl => .dec_HL
  | .sp => .dec_SP

/-- The CB rotates, shifts and SWAP (43_bitops.md R244-R251). -/
def Instr.rotate : RotOp → R8 → Instr
  | .rlc, .reg .b => .rlc_B
  | .rlc, .reg .c => .rlc_C
  | .rlc, .reg .d => .rlc_D
  | .rlc, .reg .e => .rlc_E
  | .rlc, .reg .h => .rlc_H
  | .rlc, .reg .l => .rlc_L
  | .rlc, .reg .a => .rlc_A
  | .rlc, .atHL => .rlc_atHL
  | .rrc, .reg .b => .rrc_B
  | .rrc, .reg .c => .rrc_C
  | .rrc, .reg .d => .rrc_D
  | .rrc, .reg .e => .rrc_E
  | .rrc, .reg .h => .rrc_H
  | .rrc, .reg .l => .rrc_L
  | .rrc, .reg .a => .rrc_A
  | .rrc, .atHL => .rrc_atHL
  | .rl, .reg .b => .rl_B
  | .rl, .reg .c => .rl_C
  | .rl, .reg .d => .rl_D
  | .rl, .reg .e => .rl_E
  | .rl, .reg .h => .rl_H
  | .rl, .reg .l => .rl_L
  | .rl, .reg .a => .rl_A
  | .rl, .atHL => .rl_atHL
  | .rr, .reg .b => .rr_B
  | .rr, .reg .c => .rr_C
  | .rr, .reg .d => .rr_D
  | .rr, .reg .e => .rr_E
  | .rr, .reg .h => .rr_H
  | .rr, .reg .l => .rr_L
  | .rr, .reg .a => .rr_A
  | .rr, .atHL => .rr_atHL
  | .sla, .reg .b => .sla_B
  | .sla, .reg .c => .sla_C
  | .sla, .reg .d => .sla_D
  | .sla, .reg .e => .sla_E
  | .sla, .reg .h => .sla_H
  | .sla, .reg .l => .sla_L
  | .sla, .reg .a => .sla_A
  | .sla, .atHL => .sla_atHL
  | .sra, .reg .b => .sra_B
  | .sra, .reg .c => .sra_C
  | .sra, .reg .d => .sra_D
  | .sra, .reg .e => .sra_E
  | .sra, .reg .h => .sra_H
  | .sra, .reg .l => .sra_L
  | .sra, .reg .a => .sra_A
  | .sra, .atHL => .sra_atHL
  | .swap, .reg .b => .swap_B
  | .swap, .reg .c => .swap_C
  | .swap, .reg .d => .swap_D
  | .swap, .reg .e => .swap_E
  | .swap, .reg .h => .swap_H
  | .swap, .reg .l => .swap_L
  | .swap, .reg .a => .swap_A
  | .swap, .atHL => .swap_atHL
  | .srl, .reg .b => .srl_B
  | .srl, .reg .c => .srl_C
  | .srl, .reg .d => .srl_D
  | .srl, .reg .e => .srl_E
  | .srl, .reg .h => .srl_H
  | .srl, .reg .l => .srl_L
  | .srl, .reg .a => .srl_A
  | .srl, .atHL => .srl_atHL

/-- BIT b,r (43_bitops.md R252). -/
def Instr.bitTest : Fin 8 → R8 → Instr
  | 0, .reg .b => .bit_0_B
  | 0, .reg .c => .bit_0_C
  | 0, .reg .d => .bit_0_D
  | 0, .reg .e => .bit_0_E
  | 0, .reg .h => .bit_0_H
  | 0, .reg .l => .bit_0_L
  | 0, .reg .a => .bit_0_A
  | 0, .atHL => .bit_0_atHL
  | 1, .reg .b => .bit_1_B
  | 1, .reg .c => .bit_1_C
  | 1, .reg .d => .bit_1_D
  | 1, .reg .e => .bit_1_E
  | 1, .reg .h => .bit_1_H
  | 1, .reg .l => .bit_1_L
  | 1, .reg .a => .bit_1_A
  | 1, .atHL => .bit_1_atHL
  | 2, .reg .b => .bit_2_B
  | 2, .reg .c => .bit_2_C
  | 2, .reg .d => .bit_2_D
  | 2, .reg .e => .bit_2_E
  | 2, .reg .h => .bit_2_H
  | 2, .reg .l => .bit_2_L
  | 2, .reg .a => .bit_2_A
  | 2, .atHL => .bit_2_atHL
  | 3, .reg .b => .bit_3_B
  | 3, .reg .c => .bit_3_C
  | 3, .reg .d => .bit_3_D
  | 3, .reg .e => .bit_3_E
  | 3, .reg .h => .bit_3_H
  | 3, .reg .l => .bit_3_L
  | 3, .reg .a => .bit_3_A
  | 3, .atHL => .bit_3_atHL
  | 4, .reg .b => .bit_4_B
  | 4, .reg .c => .bit_4_C
  | 4, .reg .d => .bit_4_D
  | 4, .reg .e => .bit_4_E
  | 4, .reg .h => .bit_4_H
  | 4, .reg .l => .bit_4_L
  | 4, .reg .a => .bit_4_A
  | 4, .atHL => .bit_4_atHL
  | 5, .reg .b => .bit_5_B
  | 5, .reg .c => .bit_5_C
  | 5, .reg .d => .bit_5_D
  | 5, .reg .e => .bit_5_E
  | 5, .reg .h => .bit_5_H
  | 5, .reg .l => .bit_5_L
  | 5, .reg .a => .bit_5_A
  | 5, .atHL => .bit_5_atHL
  | 6, .reg .b => .bit_6_B
  | 6, .reg .c => .bit_6_C
  | 6, .reg .d => .bit_6_D
  | 6, .reg .e => .bit_6_E
  | 6, .reg .h => .bit_6_H
  | 6, .reg .l => .bit_6_L
  | 6, .reg .a => .bit_6_A
  | 6, .atHL => .bit_6_atHL
  | 7, .reg .b => .bit_7_B
  | 7, .reg .c => .bit_7_C
  | 7, .reg .d => .bit_7_D
  | 7, .reg .e => .bit_7_E
  | 7, .reg .h => .bit_7_H
  | 7, .reg .l => .bit_7_L
  | 7, .reg .a => .bit_7_A
  | 7, .atHL => .bit_7_atHL

/-- RES b,r (43_bitops.md R253). -/
def Instr.bitReset : Fin 8 → R8 → Instr
  | 0, .reg .b => .res_0_B
  | 0, .reg .c => .res_0_C
  | 0, .reg .d => .res_0_D
  | 0, .reg .e => .res_0_E
  | 0, .reg .h => .res_0_H
  | 0, .reg .l => .res_0_L
  | 0, .reg .a => .res_0_A
  | 0, .atHL => .res_0_atHL
  | 1, .reg .b => .res_1_B
  | 1, .reg .c => .res_1_C
  | 1, .reg .d => .res_1_D
  | 1, .reg .e => .res_1_E
  | 1, .reg .h => .res_1_H
  | 1, .reg .l => .res_1_L
  | 1, .reg .a => .res_1_A
  | 1, .atHL => .res_1_atHL
  | 2, .reg .b => .res_2_B
  | 2, .reg .c => .res_2_C
  | 2, .reg .d => .res_2_D
  | 2, .reg .e => .res_2_E
  | 2, .reg .h => .res_2_H
  | 2, .reg .l => .res_2_L
  | 2, .reg .a => .res_2_A
  | 2, .atHL => .res_2_atHL
  | 3, .reg .b => .res_3_B
  | 3, .reg .c => .res_3_C
  | 3, .reg .d => .res_3_D
  | 3, .reg .e => .res_3_E
  | 3, .reg .h => .res_3_H
  | 3, .reg .l => .res_3_L
  | 3, .reg .a => .res_3_A
  | 3, .atHL => .res_3_atHL
  | 4, .reg .b => .res_4_B
  | 4, .reg .c => .res_4_C
  | 4, .reg .d => .res_4_D
  | 4, .reg .e => .res_4_E
  | 4, .reg .h => .res_4_H
  | 4, .reg .l => .res_4_L
  | 4, .reg .a => .res_4_A
  | 4, .atHL => .res_4_atHL
  | 5, .reg .b => .res_5_B
  | 5, .reg .c => .res_5_C
  | 5, .reg .d => .res_5_D
  | 5, .reg .e => .res_5_E
  | 5, .reg .h => .res_5_H
  | 5, .reg .l => .res_5_L
  | 5, .reg .a => .res_5_A
  | 5, .atHL => .res_5_atHL
  | 6, .reg .b => .res_6_B
  | 6, .reg .c => .res_6_C
  | 6, .reg .d => .res_6_D
  | 6, .reg .e => .res_6_E
  | 6, .reg .h => .res_6_H
  | 6, .reg .l => .res_6_L
  | 6, .reg .a => .res_6_A
  | 6, .atHL => .res_6_atHL
  | 7, .reg .b => .res_7_B
  | 7, .reg .c => .res_7_C
  | 7, .reg .d => .res_7_D
  | 7, .reg .e => .res_7_E
  | 7, .reg .h => .res_7_H
  | 7, .reg .l => .res_7_L
  | 7, .reg .a => .res_7_A
  | 7, .atHL => .res_7_atHL

/-- SET b,r (43_bitops.md R254). -/
def Instr.bitSet : Fin 8 → R8 → Instr
  | 0, .reg .b => .set_0_B
  | 0, .reg .c => .set_0_C
  | 0, .reg .d => .set_0_D
  | 0, .reg .e => .set_0_E
  | 0, .reg .h => .set_0_H
  | 0, .reg .l => .set_0_L
  | 0, .reg .a => .set_0_A
  | 0, .atHL => .set_0_atHL
  | 1, .reg .b => .set_1_B
  | 1, .reg .c => .set_1_C
  | 1, .reg .d => .set_1_D
  | 1, .reg .e => .set_1_E
  | 1, .reg .h => .set_1_H
  | 1, .reg .l => .set_1_L
  | 1, .reg .a => .set_1_A
  | 1, .atHL => .set_1_atHL
  | 2, .reg .b => .set_2_B
  | 2, .reg .c => .set_2_C
  | 2, .reg .d => .set_2_D
  | 2, .reg .e => .set_2_E
  | 2, .reg .h => .set_2_H
  | 2, .reg .l => .set_2_L
  | 2, .reg .a => .set_2_A
  | 2, .atHL => .set_2_atHL
  | 3, .reg .b => .set_3_B
  | 3, .reg .c => .set_3_C
  | 3, .reg .d => .set_3_D
  | 3, .reg .e => .set_3_E
  | 3, .reg .h => .set_3_H
  | 3, .reg .l => .set_3_L
  | 3, .reg .a => .set_3_A
  | 3, .atHL => .set_3_atHL
  | 4, .reg .b => .set_4_B
  | 4, .reg .c => .set_4_C
  | 4, .reg .d => .set_4_D
  | 4, .reg .e => .set_4_E
  | 4, .reg .h => .set_4_H
  | 4, .reg .l => .set_4_L
  | 4, .reg .a => .set_4_A
  | 4, .atHL => .set_4_atHL
  | 5, .reg .b => .set_5_B
  | 5, .reg .c => .set_5_C
  | 5, .reg .d => .set_5_D
  | 5, .reg .e => .set_5_E
  | 5, .reg .h => .set_5_H
  | 5, .reg .l => .set_5_L
  | 5, .reg .a => .set_5_A
  | 5, .atHL => .set_5_atHL
  | 6, .reg .b => .set_6_B
  | 6, .reg .c => .set_6_C
  | 6, .reg .d => .set_6_D
  | 6, .reg .e => .set_6_E
  | 6, .reg .h => .set_6_H
  | 6, .reg .l => .set_6_L
  | 6, .reg .a => .set_6_A
  | 6, .atHL => .set_6_atHL
  | 7, .reg .b => .set_7_B
  | 7, .reg .c => .set_7_C
  | 7, .reg .d => .set_7_D
  | 7, .reg .e => .set_7_E
  | 7, .reg .h => .set_7_H
  | 7, .reg .l => .set_7_L
  | 7, .reg .a => .set_7_A
  | 7, .atHL => .set_7_atHL

/-- JP cc,a16 (44_control.md R272). -/
def Instr.jumpIf : Cond → Word → Instr
  | .nz, a => .jp_NZ_a16 a
  | .z, a => .jp_Z_a16 a
  | .nc, a => .jp_NC_a16 a
  | .c, a => .jp_C_a16 a

/-- JR cc,e8 (44_control.md R275). -/
def Instr.jumpRelativeIf : Cond → Byte → Instr
  | .nz, e => .jr_NZ_e8 e
  | .z, e => .jr_Z_e8 e
  | .nc, e => .jr_NC_e8 e
  | .c, e => .jr_C_e8 e

/-- CALL cc,a16 (44_control.md R277). -/
def Instr.callIf : Cond → Word → Instr
  | .nz, a => .call_NZ_a16 a
  | .z, a => .call_Z_a16 a
  | .nc, a => .call_NC_a16 a
  | .c, a => .call_C_a16 a

/-- RET cc (44_control.md R279). -/
def Instr.retIf : Cond → Instr
  | .nz => .ret_NZ
  | .z => .ret_Z
  | .nc => .ret_NC
  | .c => .ret_C

/-- RST 8*y (44_control.md R281). -/
def Instr.restart : Fin 8 → Instr
  | 0 => .rst_00H
  | 1 => .rst_08H
  | 2 => .rst_10H
  | 3 => .rst_18H
  | 4 => .rst_20H
  | 5 => .rst_28H
  | 6 => .rst_30H
  | 7 => .rst_38H

/-- The eleven unused opcodes with the constructors of their rows (30_encoding.md R142). -/
def illegalForms : List (Byte × Instr) :=
  [(0xD3#8, .illegal_D3),
   (0xDB#8, .illegal_DB),
   (0xDD#8, .illegal_DD),
   (0xE3#8, .illegal_E3),
   (0xE4#8, .illegal_E4),
   (0xEB#8, .illegal_EB),
   (0xEC#8, .illegal_EC),
   (0xED#8, .illegal_ED),
   (0xF4#8, .illegal_F4),
   (0xFC#8, .illegal_FC),
   (0xFD#8, .illegal_FD)]

end Sys2Proof
end

