-- ==== Sys2Proof/Machine/Frame.lean ====
section
/-! DEFINITION. The words in which the statements are made: memory cells, the addresses an instruction
stores to, the flag bits of F, and the spec's arithmetic on unbounded integers. -/

namespace Sys2Proof.Machine

/-- One byte of a memory that the CPU can write. -/
inductive MemCell where
  | vram (off : Nat)
  | eram (k : Nat)
  | wram (off : Nat)
  | oam (off : Nat)
  | hram (off : Nat)
deriving DecidableEq, Repr

/-- The memory cell that the decoder reaches at `a`, if it reaches one (20_memory.md R70). Two
addresses with the same cell are the same byte: echo RAM and WRAM (R73), and external RAM smaller
than its window (R102). -/
def State.cell? (s : State) (a : Word) : Option MemCell :=
  match decodeAddr a with
  | .vram off => some (.vram off)
  | .cartRam off => (s.cart.ramOffset? off).map .eram
  | .wram off => some (.wram off)
  | .oam off => some (.oam off)
  | .hram off => some (.hram off)
  | .cartRom _ => none
  | .unusable => none
  | .io _ => none
  | .ie => none

/-- The byte in a memory cell. -/
def State.readCell (s : State) : MemCell → Byte
  | .vram off => s.vram.read off
  | .eram k => s.cart.eram.read k
  | .wram off => s.wram.read off
  | .oam off => s.oam.read off
  | .hram off => s.hram.read off

/-- The state with `v` in a memory cell. -/
def State.writeCell (s : State) (c : MemCell) (v : Byte) : State :=
  match c with
  | .vram off => { s with vram := s.vram.write off v }
  | .eram k => { s with cart.eram := s.cart.eram.write k v }
  | .wram off => { s with wram := s.wram.write off v }
  | .oam off => { s with oam := s.oam.write off v }
  | .hram off => { s with hram := s.hram.write off v }

/-- The two addresses a push stores to, in the order of the stores (40_load.md R190). -/
def State.pushAddrs (s : State) : List Word := [s.cpu.sp - 1#16, s.cpu.sp - 2#16]

/-- The addresses that an instruction stores to, in the order of the stores (20_memory.md R78, R80).
The state is the one `exec` runs in. -/
def storeAddrs (i : Instr) (s : State) : List Word :=
  match i with
  | .nop => []
  | .ld_BC_d16 _ => []
  | .ld_atBC_A => [s.bc]
  | .inc_BC => []
  | .inc_B => []
  | .dec_B => []
  | .ld_B_d8 _ => []
  | .rlca => []
  | .ld_ata16_SP a16 => [a16, a16 + 1#16]
  | .add_HL_BC => []
  | .ld_A_atBC => []
  | .dec_BC => []
  | .inc_C => []
  | .dec_C => []
  | .ld_C_d8 _ => []
  | .rrca => []
  | .stop _ => []
  | .ld_DE_d16 _ => []
  | .ld_atDE_A => [s.de]
  | .inc_DE => []
  | .inc_D => []
  | .dec_D => []
  | .ld_D_d8 _ => []
  | .rla => []
  | .jr_e8 _ => []
  | .add_HL_DE => []
  | .ld_A_atDE => []
  | .dec_DE => []
  | .inc_E => []
  | .dec_E => []
  | .ld_E_d8 _ => []
  | .rra => []
  | .jr_NZ_e8 _ => []
  | .ld_HL_d16 _ => []
  | .ld_atHLi_A => [s.hl]
  | .inc_HL => []
  | .inc_H => []
  | .dec_H => []
  | .ld_H_d8 _ => []
  | .daa => []
  | .jr_Z_e8 _ => []
  | .add_HL_HL => []
  | .ld_A_atHLi => []
  | .dec_HL => []
  | .inc_L => []
  | .dec_L => []
  | .ld_L_d8 _ => []
  | .cpl => []
  | .jr_NC_e8 _ => []
  | .ld_SP_d16 _ => []
  | .ld_atHLd_A => [s.hl]
  | .inc_SP => []
  | .inc_atHL => [s.hl]
  | .dec_atHL => [s.hl]
  | .ld_atHL_d8 _ => [s.hl]
  | .scf => []
  | .jr_C_e8 _ => []
  | .add_HL_SP => []
  | .ld_A_atHLd => []
  | .dec_SP => []
  | .inc_A => []
  | .dec_A => []
  | .ld_A_d8 _ => []
  | .ccf => []
  | .ld_B_B => []
  | .ld_B_C => []
  | .ld_B_D => []
  | .ld_B_E => []
  | .ld_B_H => []
  | .ld_B_L => []
  | .ld_B_atHL => []
  | .ld_B_A => []
  | .ld_C_B => []
  | .ld_C_C => []
  | .ld_C_D => []
  | .ld_C_E => []
  | .ld_C_H => []
  | .ld_C_L => []
  | .ld_C_atHL => []
  | .ld_C_A => []
  | .ld_D_B => []
  | .ld_D_C => []
  | .ld_D_D => []
  | .ld_D_E => []
  | .ld_D_H => []
  | .ld_D_L => []
  | .ld_D_atHL => []
  | .ld_D_A => []
  | .ld_E_B => []
  | .ld_E_C => []
  | .ld_E_D => []
  | .ld_E_E => []
  | .ld_E_H => []
  | .ld_E_L => []
  | .ld_E_atHL => []
  | .ld_E_A => []
  | .ld_H_B => []
  | .ld_H_C => []
  | .ld_H_D => []
  | .ld_H_E => []
  | .ld_H_H => []
  | .ld_H_L => []
  | .ld_H_atHL => []
  | .ld_H_A => []
  | .ld_L_B => []
  | .ld_L_C => []
  | .ld_L_D => []
  | .ld_L_E => []
  | .ld_L_H => []
  | .ld_L_L => []
  | .ld_L_atHL => []
  | .ld_L_A => []
  | .ld_atHL_B => [s.hl]
  | .ld_atHL_C => [s.hl]
  | .ld_atHL_D => [s.hl]
  | .ld_atHL_E => [s.hl]
  | .ld_atHL_H => [s.hl]
  | .ld_atHL_L => [s.hl]
  | .halt => []
  | .ld_atHL_A => [s.hl]
  | .ld_A_B => []
  | .ld_A_C => []
  | .ld_A_D => []
  | .ld_A_E => []
  | .ld_A_H => []
  | .ld_A_L => []
  | .ld_A_atHL => []
  | .ld_A_A => []
  | .add_A_B => []
  | .add_A_C => []
  | .add_A_D => []
  | .add_A_E => []
  | .add_A_H => []
  | .add_A_L => []
  | .add_A_atHL => []
  | .add_A_A => []
  | .adc_A_B => []
  | .adc_A_C => []
  | .adc_A_D => []
  | .adc_A_E => []
  | .adc_A_H => []
  | .adc_A_L => []
  | .adc_A_atHL => []
  | .adc_A_A => []
  | .sub_B => []
  | .sub_C => []
  | .sub_D => []
  | .sub_E => []
  | .sub_H => []
  | .sub_L => []
  | .sub_atHL => []
  | .sub_A => []
  | .sbc_A_B => []
  | .sbc_A_C => []
  | .sbc_A_D => []
  | .sbc_A_E => []
  | .sbc_A_H => []
  | .sbc_A_L => []
  | .sbc_A_atHL => []
  | .sbc_A_A => []
  | .and_B => []
  | .and_C => []
  | .and_D => []
  | .and_E => []
  | .and_H => []
  | .and_L => []
  | .and_atHL => []
  | .and_A => []
  | .xor_B => []
  | .xor_C => []
  | .xor_D => []
  | .xor_E => []
  | .xor_H => []
  | .xor_L => []
  | .xor_atHL => []
  | .xor_A => []
  | .or_B => []
  | .or_C => []
  | .or_D => []
  | .or_E => []
  | .or_H => []
  | .or_L => []
  | .or_atHL => []
  | .or_A => []
  | .cp_B => []
  | .cp_C => []
  | .cp_D => []
  | .cp_E => []
  | .cp_H => []
  | .cp_L => []
  | .cp_atHL => []
  | .cp_A => []
  | .ret_NZ => []
  | .pop_BC => []
  | .jp_NZ_a16 _ => []
  | .jp_a16 _ => []
  | .call_NZ_a16 _ => if s.cond .nz then s.pushAddrs else []
  | .push_BC => s.pushAddrs
  | .add_A_d8 _ => []
  | .rst_00H => s.pushAddrs
  | .ret_Z => []
  | .ret => []
  | .jp_Z_a16 _ => []
  | .prefix_CB op2 => if op2.toNat % 8 = 6 ∧ op2.toNat / 64 ≠ 1 then [s.hl] else []
  | .call_Z_a16 _ => if s.cond .z then s.pushAddrs else []
  | .call_a16 _ => s.pushAddrs
  | .adc_A_d8 _ => []
  | .rst_08H => s.pushAddrs
  | .ret_NC => []
  | .pop_DE => []
  | .jp_NC_a16 _ => []
  | .illegal_D3 => []
  | .call_NC_a16 _ => if s.cond .nc then s.pushAddrs else []
  | .push_DE => s.pushAddrs
  | .sub_d8 _ => []
  | .rst_10H => s.pushAddrs
  | .ret_C => []
  | .reti => []
  | .jp_C_a16 _ => []
  | .illegal_DB => []
  | .call_C_a16 _ => if s.cond .c then s.pushAddrs else []
  | .illegal_DD => []
  | .sbc_A_d8 _ => []
  | .rst_18H => s.pushAddrs
  | .ldh_ata8_A a8 => [highPage a8]
  | .pop_HL => []
  | .ld_atC_A => [highPage s.cpu.c]
  | .illegal_E3 => []
  | .illegal_E4 => []
  | .push_HL => s.pushAddrs
  | .and_d8 _ => []
  | .rst_20H => s.pushAddrs
  | .add_SP_e8 _ => []
  | .jp_HL => []
  | .ld_ata16_A a16 => [a16]
  | .illegal_EB => []
  | .illegal_EC => []
  | .illegal_ED => []
  | .xor_d8 _ => []
  | .rst_28H => s.pushAddrs
  | .ldh_A_ata8 _ => []
  | .pop_AF => []
  | .ld_A_atC => []
  | .di => []
  | .illegal_F4 => []
  | .push_AF => s.pushAddrs
  | .or_d8 _ => []
  | .rst_30H => s.pushAddrs
  | .ld_HL_SPe8 _ => []
  | .ld_SP_HL => []
  | .ld_A_ata16 _ => []
  | .ei => []
  | .illegal_FC => []
  | .illegal_FD => []
  | .cp_d8 _ => []
  | .rst_38H => s.pushAddrs
  | .rlc_B => []
  | .rlc_C => []
  | .rlc_D => []
  | .rlc_E => []
  | .rlc_H => []
  | .rlc_L => []
  | .rlc_atHL => [s.hl]
  | .rlc_A => []
  | .rrc_B => []
  | .rrc_C => []
  | .rrc_D => []
  | .rrc_E => []
  | .rrc_H => []
  | .rrc_L => []
  | .rrc_atHL => [s.hl]
  | .rrc_A => []
  | .rl_B => []
  | .rl_C => []
  | .rl_D => []
  | .rl_E => []
  | .rl_H => []
  | .rl_L => []
  | .rl_atHL => [s.hl]
  | .rl_A => []
  | .rr_B => []
  | .rr_C => []
  | .rr_D => []
  | .rr_E => []
  | .rr_H => []
  | .rr_L => []
  | .rr_atHL => [s.hl]
  | .rr_A => []
  | .sla_B => []
  | .sla_C => []
  | .sla_D => []
  | .sla_E => []
  | .sla_H => []
  | .sla_L => []
  | .sla_atHL => [s.hl]
  | .sla_A => []
  | .sra_B => []
  | .sra_C => []
  | .sra_D => []
  | .sra_E => []
  | .sra_H => []
  | .sra_L => []
  | .sra_atHL => [s.hl]
  | .sra_A => []
  | .swap_B => []
  | .swap_C => []
  | .swap_D => []
  | .swap_E => []
  | .swap_H => []
  | .swap_L => []
  | .swap_atHL => [s.hl]
  | .swap_A => []
  | .srl_B => []
  | .srl_C => []
  | .srl_D => []
  | .srl_E => []
  | .srl_H => []
  | .srl_L => []
  | .srl_atHL => [s.hl]
  | .srl_A => []
  | .bit_0_B => []
  | .bit_0_C => []
  | .bit_0_D => []
  | .bit_0_E => []
  | .bit_0_H => []
  | .bit_0_L => []
  | .bit_0_atHL => []
  | .bit_0_A => []
  | .bit_1_B => []
  | .bit_1_C => []
  | .bit_1_D => []
  | .bit_1_E => []
  | .bit_1_H => []
  | .bit_1_L => []
  | .bit_1_atHL => []
  | .bit_1_A => []
  | .bit_2_B => []
  | .bit_2_C => []
  | .bit_2_D => []
  | .bit_2_E => []
  | .bit_2_H => []
  | .bit_2_L => []
  | .bit_2_atHL => []
  | .bit_2_A => []
  | .bit_3_B => []
  | .bit_3_C => []
  | .bit_3_D => []
  | .bit_3_E => []
  | .bit_3_H => []
  | .bit_3_L => []
  | .bit_3_atHL => []
  | .bit_3_A => []
  | .bit_4_B => []
  | .bit_4_C => []
  | .bit_4_D => []
  | .bit_4_E => []
  | .bit_4_H => []
  | .bit_4_L => []
  | .bit_4_atHL => []
  | .bit_4_A => []
  | .bit_5_B => []
  | .bit_5_C => []
  | .bit_5_D => []
  | .bit_5_E => []
  | .bit_5_H => []
  | .bit_5_L => []
  | .bit_5_atHL => []
  | .bit_5_A => []
  | .bit_6_B => []
  | .bit_6_C => []
  | .bit_6_D => []
  | .bit_6_E => []
  | .bit_6_H => []
  | .bit_6_L => []
  | .bit_6_atHL => []
  | .bit_6_A => []
  | .bit_7_B => []
  | .bit_7_C => []
  | .bit_7_D => []
  | .bit_7_E => []
  | .bit_7_H => []
  | .bit_7_L => []
  | .bit_7_atHL => []
  | .bit_7_A => []
  | .res_0_B => []
  | .res_0_C => []
  | .res_0_D => []
  | .res_0_E => []
  | .res_0_H => []
  | .res_0_L => []
  | .res_0_atHL => [s.hl]
  | .res_0_A => []
  | .res_1_B => []
  | .res_1_C => []
  | .res_1_D => []
  | .res_1_E => []
  | .res_1_H => []
  | .res_1_L => []
  | .res_1_atHL => [s.hl]
  | .res_1_A => []
  | .res_2_B => []
  | .res_2_C => []
  | .res_2_D => []
  | .res_2_E => []
  | .res_2_H => []
  | .res_2_L => []
  | .res_2_atHL => [s.hl]
  | .res_2_A => []
  | .res_3_B => []
  | .res_3_C => []
  | .res_3_D => []
  | .res_3_E => []
  | .res_3_H => []
  | .res_3_L => []
  | .res_3_atHL => [s.hl]
  | .res_3_A => []
  | .res_4_B => []
  | .res_4_C => []
  | .res_4_D => []
  | .res_4_E => []
  | .res_4_H => []
  | .res_4_L => []
  | .res_4_atHL => [s.hl]
  | .res_4_A => []
  | .res_5_B => []
  | .res_5_C => []
  | .res_5_D => []
  | .res_5_E => []
  | .res_5_H => []
  | .res_5_L => []
  | .res_5_atHL => [s.hl]
  | .res_5_A => []
  | .res_6_B => []
  | .res_6_C => []
  | .res_6_D => []
  | .res_6_E => []
  | .res_6_H => []
  | .res_6_L => []
  | .res_6_atHL => [s.hl]
  | .res_6_A => []
  | .res_7_B => []
  | .res_7_C => []
  | .res_7_D => []
  | .res_7_E => []
  | .res_7_H => []
  | .res_7_L => []
  | .res_7_atHL => [s.hl]
  | .res_7_A => []
  | .set_0_B => []
  | .set_0_C => []
  | .set_0_D => []
  | .set_0_E => []
  | .set_0_H => []
  | .set_0_L => []
  | .set_0_atHL => [s.hl]
  | .set_0_A => []
  | .set_1_B => []
  | .set_1_C => []
  | .set_1_D => []
  | .set_1_E => []
  | .set_1_H => []
  | .set_1_L => []
  | .set_1_atHL => [s.hl]
  | .set_1_A => []
  | .set_2_B => []
  | .set_2_C => []
  | .set_2_D => []
  | .set_2_E => []
  | .set_2_H => []
  | .set_2_L => []
  | .set_2_atHL => [s.hl]
  | .set_2_A => []
  | .set_3_B => []
  | .set_3_C => []
  | .set_3_D => []
  | .set_3_E => []
  | .set_3_H => []
  | .set_3_L => []
  | .set_3_atHL => [s.hl]
  | .set_3_A => []
  | .set_4_B => []
  | .set_4_C => []
  | .set_4_D => []
  | .set_4_E => []
  | .set_4_H => []
  | .set_4_L => []
  | .set_4_atHL => [s.hl]
  | .set_4_A => []
  | .set_5_B => []
  | .set_5_C => []
  | .set_5_D => []
  | .set_5_E => []
  | .set_5_H => []
  | .set_5_L => []
  | .set_5_atHL => [s.hl]
  | .set_5_A => []
  | .set_6_B => []
  | .set_6_C => []
  | .set_6_D => []
  | .set_6_E => []
  | .set_6_H => []
  | .set_6_L => []
  | .set_6_atHL => [s.hl]
  | .set_6_A => []
  | .set_7_B => []
  | .set_7_C => []
  | .set_7_D => []
  | .set_7_E => []
  | .set_7_H => []
  | .set_7_L => []
  | .set_7_atHL => [s.hl]
  | .set_7_A => []

/-- `new` is the byte F holds after a write of the four flags into `old` (10_state.md R22, R23):
bits 7-4 say `z`, `n`, `h` and `c`, and bits 3-0 are as they were. -/
structure FlagsWritten (old new : Byte) (z n h c : Prop) : Prop where
  z : new.getLsbD 7 = true ↔ z
  n : new.getLsbD 6 = true ↔ n
  h : new.getLsbD 5 = true ↔ h
  c : new.getLsbD 4 = true ↔ c
  low : new &&& 0x0F#8 = old &&& 0x0F#8

/-- F.C as 0 or 1 (41_alu8.md). -/
def State.carryIn (s : State) : Nat := if s.flagC then 1 else 0

/-- The operand `s` of a two-operand ALU instruction (41_alu8.md). -/
def State.aluOperand (s : State) : AluSrc → Byte
  | .r8 k => s.readR8 k
  | .imm n => n

/-- The cost of a two-operand ALU instruction: 4, 8 or 8 (41_alu8.md). -/
def aluCost : AluSrc → Nat
  | .r8 (.reg _) => 4
  | .r8 .atHL => 8
  | .imm _ => 8

/-- The result of a rotate or shift of the value `v` with carry `c` (43_bitops.md R244-R251). -/
def rotateResult (o : RotOp) (v c : Nat) : Nat :=
  match o with
  | .rlc => 2 * v % 256 + v / 128
  | .rrc => v / 2 + 128 * (v % 2)
  | .rl => 2 * v % 256 + c
  | .rr => v / 2 + 128 * c
  | .sla => 2 * v % 256
  | .sra => v / 2 + 128 * (v / 128)
  | .swap => 16 * (v % 16) + v / 16
  | .srl => v / 2

/-- The new carry of a rotate or shift of the value `v` (43_bitops.md R244-R251). -/
def rotateCarry (o : RotOp) (v : Nat) : Prop :=
  match o with
  | .rlc | .rl | .sla => v / 128 = 1
  | .rrc | .rr | .sra | .srl => v % 2 = 1
  | .swap => False

/-- Two decimal digits in one byte. -/
def bcd (n : Nat) : Byte := BitVec.ofNat 8 (16 * (n / 10) + n % 10)

/-- The next CPU step of `s` executes an instruction: no fault is recorded, the CPU is not idle and no
interrupt is serviced (60_exceptions.md R310). -/
structure State.Runs (s : State) : Prop where
  fault : s.cpu.fault = none
  stopped : s.cpu.stopped = false
  halted : s.cpu.halted = false
  noService : s.cpu.ime = false ∨ s.pending = 0#5

/-- `s` after an instruction of `n` bytes has been fetched at PC (30_encoding.md R131, R138). -/
def State.fetched (s : State) (n : Nat) : State :=
  { s with cpu.opAddr := s.cpu.pc, cpu.pc := s.cpu.pc + BitVec.ofNat 16 n }

/-- The two stores of a push of `w` (40_load.md R190): the high byte at SP - 1, then the low byte at
SP - 2; the registers are as before. -/
def State.pushed (s : State) (w : Word) : State :=
  (s.memWrite (s.cpu.sp - 1#16) (hi w)).memWrite (s.cpu.sp - 2#16) (lo w)

/-- The state with its EI latch (10_state.md R26) replaced. -/
def State.withEi (s : State) (b : Bool) : State := { s with cpu.eiPending := b }

/-- The word that a pop reads (40_load.md R190): the low byte at SP, the high byte at SP + 1. -/
def State.popped (s : State) : Word := pair (s.memRead (s.cpu.sp + 1#16)) (s.memRead s.cpu.sp)

/-- The place of the PPU in its frame, in dots (60_exceptions.md R350). -/
def Ppu.position (p : Ppu) : Nat := 456 * p.ly.toNat + p.dot

end Sys2Proof.Machine
end

