-- ==== Sys2Proof/Machine/HostIface.lean ====
section
/-! DEFINITION. The host interface (60_exceptions.md R395-R399; 20_memory.md R100, R101, R116, R117):
construction, buttons, saves, frames and the picture. The host calls these between machine steps only
(log entry 13). -/

namespace Sys2Proof.Machine

/-! ## Construction -/

/-- Why `new` returns no machine (60_exceptions.md R395). -/
inductive LoadError where
  | invalidRom
  | unsupportedCartridge
  | invalidSave
deriving DecidableEq, Repr

/-- `INIT_RAM`: the contents of the RAMs at load (00_scope.md R6, open). -/
structure InitRam where
  vram : Memory
  wram : Memory
  oam : Memory
  hram : Memory
  eram : Memory
deriving DecidableEq, Repr

/-- The draw in which every RAM byte is 0x00. -/
def InitRam.zero : InitRam := { vram := [], wram := [], oam := [], hram := [], eram := [] }

/-- The launch inputs and the parameters of 00_scope.md R6 that the construction reads. -/
structure Launch where
  rom : List Byte
  save : Option (List Byte)
  initRam : InitRam
  checkHeaderChecksum : Bool
deriving DecidableEq, Repr

/-- A variant with its feature flags (20_memory.md R100). TIMER and rumble have no effect (R100,
R111). -/
structure CartType where
  mbc : Mbc
  ram : Bool
  battery : Bool
deriving DecidableEq, Repr

/-- MBC1 at reset (20_memory.md R105). -/
def Mbc1.reset : Mbc1 := { ramEnabled := false, bank5 := 1, bank2 := 0, mode := 0 }

/-- MBC3 at reset (20_memory.md R108). -/
def Mbc3.reset : Mbc3 := { ramEnabled := false, bank7 := 1, sel := 0 }

/-- MBC5 at reset (20_memory.md R112). -/
def Mbc5.reset : Mbc5 := { ramEnabled := false, bank9 := 1, rbank4 := 0 }

/-- The type code table; any other code is unsupported (20_memory.md R100). -/
def cartType? (code : Byte) : Option CartType :=
  match code.toNat with
  | 0x00 => some { mbc := .romOnly, ram := false, battery := false }
  | 0x01 => some { mbc := .mbc1 Mbc1.reset, ram := false, battery := false }
  | 0x02 => some { mbc := .mbc1 Mbc1.reset, ram := true, battery := false }
  | 0x03 => some { mbc := .mbc1 Mbc1.reset, ram := true, battery := true }
  | 0x08 => some { mbc := .romOnly, ram := true, battery := false }
  | 0x09 => some { mbc := .romOnly, ram := true, battery := true }
  | 0x0F => some { mbc := .mbc3 Mbc3.reset, ram := false, battery := true }
  | 0x10 => some { mbc := .mbc3 Mbc3.reset, ram := true, battery := true }
  | 0x11 => some { mbc := .mbc3 Mbc3.reset, ram := false, battery := false }
  | 0x12 => some { mbc := .mbc3 Mbc3.reset, ram := true, battery := false }
  | 0x13 => some { mbc := .mbc3 Mbc3.reset, ram := true, battery := true }
  | 0x19 => some { mbc := .mbc5 Mbc5.reset, ram := false, battery := false }
  | 0x1A => some { mbc := .mbc5 Mbc5.reset, ram := true, battery := false }
  | 0x1B => some { mbc := .mbc5 Mbc5.reset, ram := true, battery := true }
  | 0x1C => some { mbc := .mbc5 Mbc5.reset, ram := false, battery := false }
  | 0x1D => some { mbc := .mbc5 Mbc5.reset, ram := true, battery := false }
  | 0x1E => some { mbc := .mbc5 Mbc5.reset, ram := true, battery := true }
  | _ => none

/-- The RAM size code table (20_memory.md R101). -/
def ramSize? (code : Byte) : Option Nat :=
  match code.toNat with
  | 0x00 => some 0
  | 0x01 => some 2048
  | 0x02 => some 8192
  | 0x03 => some 32768
  | 0x04 => some 131072
  | 0x05 => some 65536
  | _ => none

/-- The header checksum over 0x0134-0x014C (20_memory.md R117). -/
def headerChecksum (rom : List Byte) : Byte :=
  ((rom.drop 0x0134).take 25).foldl (fun x b => x - b - 1#8) 0#8

/-- A ROM length that is legal: at least 32 KiB and a multiple of 16 KiB (20_memory.md R101). -/
def validRomLength (n : Nat) : Bool := decide (0x8000 ≤ n) && decide (n % 0x4000 = 0)

/-- `import_ram(bytes)` into a cartridge (20_memory.md R116). -/
def Cart.importRam (c : Cart) (bytes : List Byte) : Except LoadError Cart :=
  if c.battery && decide (bytes.length = c.ramSize) then .ok { c with eram := Cells.ofList 0 bytes }
  else .error .invalidSave

/-- `export_ram()` of a cartridge (20_memory.md R116). -/
def Cart.exportRam (c : Cart) : List Byte := if c.battery then c.eram.toList c.ramSize else []

/-- The cartridge that a type and a RAM size make of an image, with external RAM as drawn. The draw's
bytes beyond the array's size are dropped (log entry 1). -/
def CartType.cart (t : CartType) (size : Nat) (l : Launch) : Cart :=
  { rom := Cells.ofList 0 l.rom
    romBanks := l.rom.length / 0x4000
    eram := l.initRam.eram.takeBelow size
    ramSize := size
    battery := t.battery
    mbc := t.mbc }

/-- The external RAM size that a type and the header give (20_memory.md R101). -/
def CartType.ramSize? (t : CartType) (rom : List Byte) : Option Nat :=
  if t.ram then Machine.ramSize? (rom.getD 0x0149 0#8) else some 0

/-- The cartridge of a launch: the checks of 20_memory.md R101, in their order. -/
def Launch.cart (l : Launch) : Except LoadError Cart :=
  if !validRomLength l.rom.length then .error .invalidRom
  else if l.checkHeaderChecksum && decide (headerChecksum l.rom ≠ l.rom.getD 0x014D 0#8) then
    .error .invalidRom
  else
    match cartType? (l.rom.getD 0x0147 0#8) with
    | none => .error .unsupportedCartridge
    | some t =>
      match t.ramSize? l.rom with
      | none => .error .invalidRom
      | some size =>
        match l.save with
        | none => .ok (t.cart size l)
        | some bytes => (t.cart size l).importRam bytes

/-- `new` (60_exceptions.md R395): the cartridge, and every other piece of state at its reset value
(70_reset_and_hazards.md R400). The draw's bytes beyond a memory's size are dropped (log entry 1). -/
def new (l : Launch) : Except LoadError State :=
  match l.cart with
  | .error e => .error e
  | .ok c =>
    .ok (State.launch c (l.initRam.vram.takeBelow 0x2000) (l.initRam.wram.takeBelow 0x2000)
      (l.initRam.oam.takeBelow 160) (l.initRam.hram.takeBelow 127))

/-! ## Buttons -/

/-- Why a button call changes nothing (60_exceptions.md R396). -/
inductive ButtonError where
  | invalidButton
deriving DecidableEq, Repr

/-- A press or release of button `i`, as a joypad event (60_exceptions.md R345, R396). -/
def State.setButton (s : State) (i : Nat) (v : Bool) : Except ButtonError State :=
  if h : i < 8 then
    .ok (s.joypadEvent { s.joypad with pressed := s.joypad.pressed.set ⟨i, h⟩ v })
  else .error .invalidButton

/-- `key_press(i)` (60_exceptions.md R396). -/
def State.keyPress (s : State) (i : Nat) : Except ButtonError State := s.setButton i true

/-- `key_release(i)` (60_exceptions.md R396). -/
def State.keyRelease (s : State) (i : Nat) : Except ButtonError State := s.setButton i false

/-! ## Saves -/

/-- `export_save()` (60_exceptions.md R399, 20_memory.md R116). -/
def State.exportSave (s : State) : List Byte := s.cart.exportRam

/-- `import_save(bytes)` (60_exceptions.md R399, 20_memory.md R116). -/
def State.importSave (s : State) (bytes : List Byte) : Except LoadError State :=
  match s.cart.importRam bytes with
  | .ok c => .ok { s with cart := c }
  | .error e => .error e

/-! ## Frames -/

/-- What `step_frame` returns (60_exceptions.md R397). -/
inductive FrameResult where
  | ok
  | fault (f : Fault)
  | refused (r : Refusal)
  /-- The bound of log entry 15 ran out first. -/
  | unfinished
deriving DecidableEq, Repr

/-- `step_frame()`'s loop (60_exceptions.md R397), with `total` T-cycles run so far, for at most the
given number of machine steps. -/
def State.frameLoop : Nat → Nat → State → State × FrameResult
  | 0, _, s => (s, .unfinished)
  | n + 1, total, s =>
    match s.machineStep with
    | (s', .ok t) =>
      if State.vblankWithin t s.cpuStep.1 || (!s'.ppu.lcdOn && decide (total + t ≥ 70224)) then
        (s', .ok)
      else State.frameLoop n (total + t) s'
    | (s', .fault f) => (s', .fault f)
    | (s', .refused r) => (s', .refused r)

/-- The most machine steps one frame can take: twice 70,224 T-cycles at 4 each (log entry 15). -/
def frameBound : Nat := 35112

/-- `step_frame()` (60_exceptions.md R397). -/
def State.stepFrame (s : State) : State × FrameResult := State.frameLoop frameBound 0 s

/-! ## The picture -/

/-- The grey of a shade as R, G, B, A (60_exceptions.md R398). -/
def rgba (sh : BitVec 2) : List Byte :=
  let g : Byte := 0xFF#8 - 0x55#8 * sh.setWidth 8
  [g, g, g, 0xFF#8]

/-- `pixels()` in a given format, row-major from the top-left (60_exceptions.md R398). -/
def State.pixelsAs (s : State) (fmt : PixelFormat) : List Byte :=
  match fmt with
  | .index => (s.ppu.fbIndex.toList (160 * 144)).map fun i => i.setWidth 8
  | .rgba => (s.ppu.fbShade.toList (160 * 144)).flatMap rgba

/-- `pixels()` (60_exceptions.md R398): the format is fixed per build, and open. -/
def State.pixels (s : State) : List Byte := s.pixelsAs Config.pixelFormat

end Sys2Proof.Machine
end

