-- ==== Sys2Proof/Machine/Invariant.lean ====
section
/-! DEFINITION. What holds of every state a machine is in between steps, part by part: the legal ranges
and reserved bits of 10_state.md, the mode schedule of 60_exceptions.md R351, and the canonical form
of the memories. -/

namespace Sys2Proof.Machine

/-- F's low nibble is zero (10_state.md R23). -/
def Cpu.Inv (c : Cpu) : Prop := c.f &&& 0x0F#8 = 0#8

/-- The reload count's range (10_state.md R38). -/
def Timer.Inv (t : Timer) : Prop := t.reloadCnt ≤ 4

/-- SC stores bits 7 and 0 only (10_state.md R52). -/
def Serial.Inv (s : Serial) : Prop := s.sc &&& 0x7E#8 = 0#8

/-- The mode that R351's schedule gives a position while the LCD is on. -/
def scheduledMode (ly dot : Nat) : Mode :=
  if 144 ≤ ly then .vblank else if dot < 80 then .oamScan
  else if dot < 80 + Config.t3 then .transfer else .hblank

/-- The PPU: its ranges (10_state.md R44, R49), the mode schedule (60_exceptions.md R351), the
coincidence flag (R352), the latched STAT line (R353), and what the LCD switch leaves (R360). -/
structure Ppu.Inv (p : Ppu) : Prop where
  ly_lt : p.ly.toNat < 154
  dot_lt : p.dot < 456
  window_lt : p.windowLine < 256
  coincidence_eq : p.coincidence = decide (p.ly = p.lyc)
  stat_eq : p.statLine = p.statValue
  sprites_le : p.lineSprites.length ≤ 10
  sprites_lt : ∀ k ∈ p.lineSprites, k < 40
  mode_on : p.lcdOn = true → p.mode = scheduledMode p.ly.toNat p.dot
  off : p.lcdOn = false →
    p.mode = .hblank ∧ p.ly = 0#8 ∧ p.dot = 0 ∧ p.fbIndex = [] ∧ p.fbShade = []
  index_wf : p.fbIndex.wf = true ∧ p.fbIndex.within (160 * 144) = true
  shade_wf : p.fbShade.wf = true ∧ p.fbShade.within (160 * 144) = true

/-- The DMA engine's count (10_state.md R51): a transfer in flight has not reached 640. -/
def Dma.Inv (d : Dma) : Prop := d.t ≤ 640 ∧ (d.active = true → d.t < 640)

/-- The bank registers that are never zero (20_memory.md R106, R109). -/
def Mbc.Inv : Mbc → Prop
  | .romOnly => True
  | .mbc1 m => m.bank5 ≠ 0#5
  | .mbc3 m => m.bank7 ≠ 0#7
  | .mbc5 _ => True

/-- The cartridge: at least two ROM banks, and memories in canonical form within their sizes
(20_memory.md R101, R102). -/
structure Cart.Inv (c : Cart) : Prop where
  banks : 2 ≤ c.romBanks
  rom_wf : c.rom.wf = true ∧ c.rom.within (c.romBanks * 0x4000) = true
  eram_wf : c.eram.wf = true ∧ c.eram.within c.ramSize = true
  mbc : c.mbc.Inv

/-- The internal memories: canonical form within their sizes (10_state.md R53). -/
structure State.MemInv (s : State) : Prop where
  vram : s.vram.wf = true ∧ s.vram.within 0x2000 = true
  wram : s.wram.wf = true ∧ s.wram.within 0x2000 = true
  oam : s.oam.wf = true ∧ s.oam.within 160 = true
  hram : s.hram.wf = true ∧ s.hram.within 127 = true

/-- The machine's invariant. -/
structure State.Inv (s : State) : Prop where
  cpu : s.cpu.Inv
  timer : s.timer.Inv
  serial : s.serial.Inv
  ppu : s.ppu.Inv
  dma : s.dma.Inv
  cart : s.cart.Inv
  mem : s.MemInv

end Sys2Proof.Machine
end

