-- ==== Sys2Proof/Safety.lean ====
section
/-! DEFINITION. What counts as a safe run: it meets no fault and no refusal, and every state of it
keeps the machine's invariant. The only unsafe event the spec knows is `IllegalOpcode`
(60_exceptions.md R324). -/

namespace Sys2Proof.Machine

/-- `k` steps from `s` all go on. -/
def SafeFor : Nat → State → Prop
  | 0, s => s.Inv
  | k + 1, s => s.Inv ∧ ∃ t, step s = .next t ∧ SafeFor k t

/-- A run from `s` never stops and never leaves the invariant. -/
def Safe (s : State) : Prop := ∀ k, SafeFor k s

end Sys2Proof.Machine
end

