-- ==== Sys2Proof/Certificates/Slice0/Obligations.lean ====
section
/-! DEFINITION. The statements for the provers. Each docstring names the rules of spec/ it is made
from. `exec i s` is stated of the state after the instruction's bytes have been fetched, which
`StepRunsDecodedInstr` connects with `step`. `cpu.stepCost` is the model's place for the cost
(log entry 4). -/

section

open Sys2Proof Sys2Proof.Machine

/-! ## Encoding -/

/-- No bit of an encoding is dropped (30_encoding.md R130-R143). -/
def Obligations.DecodeAfterEncode : Prop :=
  ∀ (i : Instr) (rest : List Byte), i.wellFormed = true → decode (encode i ++ rest) = .ok (i, rest)

/-- Each byte sequence that decodes has one spelling: the decoded instruction encodes to it, and is a
whole instruction (30_encoding.md R138). A sequence fails only by ending too soon: three bytes always
decode. -/
def Obligations.EncodeAfterDecode : Prop :=
  (∀ (bytes : List Byte) (i : Instr) (rest : List Byte), decode bytes = .ok (i, rest) →
    i.wellFormed = true ∧ encode i ++ rest = bytes) ∧
  ∀ (b0 b1 b2 : Byte) (rest : List Byte), ∃ i rest', decode (b0 :: b1 :: b2 :: rest) = .ok (i, rest')

/-- Words written out from the opcode maps (30_encoding.md R140-R142), one or more of each family. -/
def Obligations.DecodedWords : Prop :=
  decode [0x78#8] = .ok (.ld_A_B, []) ∧
  decode [0x21#8, 0x34#8, 0x12#8] = .ok (.ld_HL_d16 0x1234#16, []) ∧
  decode [0x32#8] = .ok (.ld_atHLd_A, []) ∧
  decode [0xE0#8, 0x46#8] = .ok (.ldh_ata8_A 0x46#8, []) ∧
  decode [0xF5#8] = .ok (.push_AF, []) ∧
  decode [0x9C#8] = .ok (.sbc_A_H, []) ∧
  decode [0xFE#8, 0x90#8] = .ok (.cp_d8 0x90#8, []) ∧
  decode [0x27#8] = .ok (.daa, []) ∧
  decode [0x39#8] = .ok (.add_HL_SP, []) ∧
  decode [0xE8#8, 0xFE#8] = .ok (.add_SP_e8 0xFE#8, []) ∧
  decode [0xCB#8, 0x37#8] = .ok (.swap_A, []) ∧
  decode [0xCB#8, 0x7E#8] = .ok (.bit_7_atHL, []) ∧
  decode [0xC4#8, 0x00#8, 0x20#8] = .ok (.call_NZ_a16 0x2000#16, []) ∧
  decode [0x18#8, 0xFE#8] = .ok (.jr_e8 0xFE#8, []) ∧
  decode [0x76#8] = .ok (.halt, []) ∧
  decode [0x10#8, 0x00#8] = .ok (.stop 0x00#8, []) ∧
  decode [0xD3#8] = .ok (.illegal_D3, [])

/-! ## The step -/

/-- A step runs the instruction whose bytes stand at PC: `exec` of it, on the state with PC past the
bytes; then the delayed enable of EI, and the peripherals by the instruction's cost (60_exceptions.md
R310, R313; 30_encoding.md R131, R138). -/
def Obligations.StepRunsDecodedInstr : Prop :=
  ∀ (s : State) (i : Instr) (rest : List Byte), s.Runs → s.cpu.haltBug = false →
    decode [s.memRead s.cpu.pc, s.memRead (s.cpu.pc + 1#16), s.memRead (s.cpu.pc + 2#16)] =
      .ok (i, rest) →
    step s =
      match exec i (s.fetched (encode i).length) with
      | .next t =>
        match t.cpu.fault with
        | some f => .fault f
        | none => .next (State.advance t.cpu.stepCost (t.applyEi s.cpu.eiPending))
      | .fault f => .fault f
      | .refused r => .refused r

/-- `fetch8()` and the HALT bug: while the bug is set, one fetch does not move PC, so the byte is read
again, as a second or third byte of an instruction or as the next opcode (30_encoding.md R131). With
0xCB at PC that makes CB CB, which is SET 1,E (45_system.md R291). -/
def Obligations.HaltBugRepeatsByte : Prop :=
  ∀ s : State,
    (s.fetch8.1 = s.memRead s.cpu.pc) ∧
    (s.cpu.haltBug = false → s.fetch8.2 = { s with cpu.pc := s.cpu.pc + 1#16 }) ∧
    (s.cpu.haltBug = true → s.fetch8.2 = { s with cpu.haltBug := false }) ∧
    (s.cpu.haltBug = true →
      let b := s.memRead s.cpu.pc
      let s' := { s with cpu.haltBug := false, cpu.opAddr := s.cpu.pc }
      (instrLength b = 1 → s.fetchInstr = (decodeBytes b 0 0, s')) ∧
      (instrLength b = 2 →
        s.fetchInstr = (decodeBytes b b 0, { s' with cpu.pc := s.cpu.pc + 1#16 })) ∧
      (instrLength b = 3 →
        s.fetchInstr =
          (decodeBytes b b (s.memRead (s.cpu.pc + 1#16)), { s' with cpu.pc := s.cpu.pc + 2#16 })) ∧
      (b = 0xCB#8 → s.fetchInstr = (.set_1_E, { s' with cpu.pc := s.cpu.pc + 1#16 })))

/-- The idle states and the wake-up (60_exceptions.md R311): 4 T-cycles and no change while no wake-up
condition holds; when it holds, the same step goes on as if the CPU had been awake. -/
def Obligations.IdleAndWakeUp : Prop :=
  ∀ s : State, s.cpu.fault = none →
    (s.cpu.stopped = true → s.joypad.lines = 0xF#4 →
      s.cpuStep = ({ s with cpu.stepCost := 4 }, .ok 4) ∧
      step s = .next (State.advance 4 { s with cpu.stepCost := 4 })) ∧
    (s.cpu.stopped = true → s.joypad.lines ≠ 0xF#4 →
      s.cpuStep = ({ s with cpu.stopped := false } : State).cpuStep) ∧
    (s.cpu.stopped = false → s.cpu.halted = true → s.pending = 0#5 →
      s.cpuStep = ({ s with cpu.stepCost := 4 }, .ok 4) ∧
      step s = .next (State.advance 4 { s with cpu.stepCost := 4 })) ∧
    (s.cpu.stopped = false → s.cpu.halted = true → s.pending ≠ 0#5 →
      s.cpuStep = ({ s with cpu.halted := false } : State).cpuStep)

/-- The delayed enable (60_exceptions.md R312): IME becomes 1 at the end of a step that executes an
instruction iff `ei_pending` was set before the instruction and still is after it. Nothing else than
that, or a RETI, ever makes IME 1. And an EI executed with IME = 1 changes nothing observable
(45_system.md R295; the model's reading, log entry 16): while IME is 1 no step tells whether the latch
is set. Two machines that differ in it alone step alike, and differ in nothing else afterwards, and not
in it either once IME is 0. -/
def Obligations.DelayedEnable : Prop :=
  (∀ (s t : State), s.Runs → exec s.fetchInstr.1 s.fetchInstr.2 = .next t → t.cpu.fault = none →
    s.cpuStep.2 = .ok t.cpu.stepCost ∧
    (s.cpu.eiPending = true ∧ t.cpu.eiPending = true →
      s.cpuStep.1 = { t with cpu.ime := true, cpu.eiPending := false }) ∧
    (s.cpu.eiPending = false ∨ t.cpu.eiPending = false → s.cpuStep.1 = t)) ∧
  (∀ s : State, s.cpu.ime = false → s.cpuStep.1.cpu.ime = true →
    s.cpu.eiPending = true ∨ s.fetchInstr.1 = .reti) ∧
  ∀ (s : State) (b : Bool), s.cpu.ime = true →
    (∀ t, step s = .next t → ∃ c, step (s.withEi b) = .next (t.withEi c) ∧
      (t.cpu.ime = true ∨ c = t.cpu.eiPending)) ∧
    ∀ f, step s = .fault f → step (s.withEi b) = .fault f

/-- The service of an interrupt (60_exceptions.md R321, R322, R323): the lowest pending line, IME and
the line's IF bit cleared, the return address pushed (that of the HALT while the HALT bug is set), PC
at 0x0040 + 8n, 20 T-cycles; no other register changes. That `ei_pending` is cleared too is the
model's reading (log entry 16). -/
def Obligations.InterruptService : Prop :=
  ∀ s : State, s.cpu.fault = none → (s.cpu.stopped = true → s.joypad.lines ≠ 0xF#4) →
    s.cpu.ime = true → s.pending ≠ 0#5 →
    ∃ n, n < 5 ∧ s.pending.getLsbD n = true ∧ (∀ m, m < n → s.pending.getLsbD m = false) ∧
      let ret := if s.cpu.haltBug then s.cpu.pc - 1#16 else s.cpu.pc
      let u := { s with irq.ifl := s.irq.ifl &&& ~~~(1#5 <<< n) }
      s.cpuStep =
        ({ u.pushed ret with
            cpu := { s.cpu with
              ime := false, eiPending := false, haltBug := false, stopped := false, halted := false
              sp := s.cpu.sp - 2#16, pc := BitVec.ofNat 16 (0x0040 + 8 * n), stepCost := 20 } },
          .ok 20)

/-- The costs (70_reset_and_hazards.md R420; 60_exceptions.md R310): every step that goes on takes a
positive multiple of 4 T-cycles, 24 at most, and the peripherals run for exactly that many. -/
def Obligations.StepCosts : Prop :=
  ∀ (s : State) (n : Nat), s.cpuStep.2 = .ok n →
    n ∈ [4, 8, 12, 16, 20, 24] ∧ s.cpuStep.1.cpu.stepCost = n ∧
    step s = .next (State.advance n s.cpuStep.1)

/-! ## The registers -/

/-- The register file (10_state.md R20; 30_encoding.md R134, R135): eight registers and three pairs
over the same storage, the first-named register the high byte; a write changes what it names and
nothing else; the reset values. -/
def Obligations.RegisterFile : Prop :=
  (∀ (s : State) (r : Reg8) (v : Byte),
    (∀ q, (s.setReg8 r v).reg8 q = if q = r then v else s.reg8 q) ∧
    (∃ a b c d e h l,
      s.setReg8 r v = { s with cpu := { s.cpu with a := a, b := b, c := c, d := d, e := e, h := h, l := l } }) ∧
    s.readR8 (.reg r) = s.reg8 r ∧ s.writeR8 (.reg r) v = s.setReg8 r v ∧
    s.readR8 .atHL = s.memRead s.hl ∧ s.writeR8 .atHL v = s.memWrite s.hl v) ∧
  (∀ (s : State) (rr : RR) (w : Word),
    (∀ q, (s.writeRR rr w).readRR q = if q = rr then w else s.readRR q) ∧
    (∃ b c d e h l sp,
      s.writeRR rr w = { s with cpu := { s.cpu with b := b, c := c, d := d, e := e, h := h, l := l, sp := sp } })) ∧
  (∀ s : State,
    (s.readRR .bc).toNat = 256 * (s.reg8 .b).toNat + (s.reg8 .c).toNat ∧
    (s.readRR .de).toNat = 256 * (s.reg8 .d).toNat + (s.reg8 .e).toNat ∧
    (s.readRR .hl).toNat = 256 * (s.reg8 .h).toNat + (s.reg8 .l).toNat ∧
    s.hl = s.readRR .hl ∧ s.bc = s.readRR .bc ∧ s.de = s.readRR .de ∧ s.readRR .sp = s.cpu.sp ∧
    (s.readStackRR .af).toNat = 256 * s.cpu.a.toNat + (s.cpu.f &&& 0xF0#8).toNat) ∧
  State.reset.cpu.a = 0x01#8 ∧ State.reset.cpu.f = 0xB0#8 ∧ State.reset.cpu.b = 0x00#8 ∧
  State.reset.cpu.c = 0x13#8 ∧ State.reset.cpu.d = 0x00#8 ∧ State.reset.cpu.e = 0xD8#8 ∧
  State.reset.cpu.h = 0x01#8 ∧ State.reset.cpu.l = 0x4D#8

/-! ## Loads and stores -/

/-- LD r,r' and LD r,d8 (40_load.md R160, R161). -/
def Obligations.LoadRegister : Prop :=
  ∀ (r r' : Reg8) (n : Byte) (s : State),
    encode (.loadReg r r') = [BitVec.ofNat 8 (0x40 + 8 * r.code + r'.code)] ∧
    exec (.loadReg r r') s = .next { s.setReg8 r (s.reg8 r') with cpu.stepCost := 4 } ∧
    encode (.loadRegImm r n) = [BitVec.ofNat 8 (0x06 + 8 * r.code), n] ∧
    exec (.loadRegImm r n) s = .next { s.setReg8 r n with cpu.stepCost := 8 }

/-- The loads of a byte of memory (40_load.md R162, R165, R166, R169, R171, R173, R177, R178): the
register takes what the bus read of the address gives; memory is as before, and HL moves on in the
two forms that move it. -/
def Obligations.ByteLoads : Prop :=
  ∀ (r : Reg8) (n : Byte) (a : Word) (s : State),
    (encode (.loadRegMem r) = [BitVec.ofNat 8 (0x46 + 8 * r.code)] ∧
      exec (.loadRegMem r) s = .next { s.setReg8 r (s.memRead s.hl) with cpu.stepCost := 8 }) ∧
    (encode .ld_A_atBC = [0x0A#8] ∧
      exec .ld_A_atBC s = .next { s with cpu.a := s.memRead s.bc, cpu.stepCost := 8 }) ∧
    (encode .ld_A_atDE = [0x1A#8] ∧
      exec .ld_A_atDE s = .next { s with cpu.a := s.memRead s.de, cpu.stepCost := 8 }) ∧
    (encode (.ld_A_ata16 a) = [0xFA#8, lo a, hi a] ∧
      exec (.ld_A_ata16 a) s = .next { s with cpu.a := s.memRead a, cpu.stepCost := 16 }) ∧
    (encode (.ldh_A_ata8 n) = [0xF0#8, n] ∧
      exec (.ldh_A_ata8 n) s =
        .next { s with cpu.a := s.memRead (BitVec.ofNat 16 (0xFF00 + n.toNat)), cpu.stepCost := 12 }) ∧
    (encode .ld_A_atC = [0xF2#8] ∧
      exec .ld_A_atC s =
        .next { s with
          cpu.a := s.memRead (BitVec.ofNat 16 (0xFF00 + s.cpu.c.toNat)), cpu.stepCost := 8 }) ∧
    (encode .ld_A_atHLi = [0x2A#8] ∧
      exec .ld_A_atHLi s =
        .next { s with
          cpu.a := s.memRead s.hl, cpu.h := hi (s.hl + 1#16), cpu.l := lo (s.hl + 1#16)
          cpu.stepCost := 8 }) ∧
    (encode .ld_A_atHLd = [0x3A#8] ∧
      exec .ld_A_atHLd s =
        .next { s with
          cpu.a := s.memRead s.hl, cpu.h := hi (s.hl - 1#16), cpu.l := lo (s.hl - 1#16)
          cpu.stepCost := 8 })

/-- The stores of a byte (40_load.md R163, R164, R167, R168, R170, R172, R174, R175, R176): one bus
write at the address the form computes; the registers are as before, but HL where the form moves
it. What the write leaves of memory is said by `StoreFrame`. -/
def Obligations.ByteStores : Prop :=
  ∀ (r : Reg8) (n : Byte) (a : Word) (s : State),
    (encode (.storeReg r) = [BitVec.ofNat 8 (0x70 + r.code)] ∧
      exec (.storeReg r) s =
        .next { s.memWrite s.hl (s.reg8 r) with cpu := { s.cpu with stepCost := 8 } }) ∧
    (encode (.ld_atHL_d8 n) = [0x36#8, n] ∧
      exec (.ld_atHL_d8 n) s = .next { s.memWrite s.hl n with cpu := { s.cpu with stepCost := 12 } }) ∧
    (encode .ld_atBC_A = [0x02#8] ∧
      exec .ld_atBC_A s = .next { s.memWrite s.bc s.cpu.a with cpu := { s.cpu with stepCost := 8 } }) ∧
    (encode .ld_atDE_A = [0x12#8] ∧
      exec .ld_atDE_A s = .next { s.memWrite s.de s.cpu.a with cpu := { s.cpu with stepCost := 8 } }) ∧
    (encode (.ld_ata16_A a) = [0xEA#8, lo a, hi a] ∧
      exec (.ld_ata16_A a) s = .next { s.memWrite a s.cpu.a with cpu := { s.cpu with stepCost := 16 } }) ∧
    (encode (.ldh_ata8_A n) = [0xE0#8, n] ∧
      exec (.ldh_ata8_A n) s =
        .next { s.memWrite (BitVec.ofNat 16 (0xFF00 + n.toNat)) s.cpu.a with
          cpu := { s.cpu with stepCost := 12 } }) ∧
    (encode .ld_atC_A = [0xE2#8] ∧
      exec .ld_atC_A s =
        .next { s.memWrite (BitVec.ofNat 16 (0xFF00 + s.cpu.c.toNat)) s.cpu.a with
          cpu := { s.cpu with stepCost := 8 } }) ∧
    (encode .ld_atHLi_A = [0x22#8] ∧
      exec .ld_atHLi_A s =
        .next { s.memWrite s.hl s.cpu.a with
          cpu := { s.cpu with h := hi (s.hl + 1#16), l := lo (s.hl + 1#16), stepCost := 8 } }) ∧
    (encode .ld_atHLd_A = [0x32#8] ∧
      exec .ld_atHLd_A s =
        .next { s.memWrite s.hl s.cpu.a with
          cpu := { s.cpu with h := hi (s.hl - 1#16), l := lo (s.hl - 1#16), stepCost := 8 } })

/-- The 16-bit loads (40_load.md R180, R184, R185). -/
def Obligations.WordLoads : Prop :=
  ∀ (rr : RR) (n a : Word) (s : State),
    (encode (.loadPair rr n) = [BitVec.ofNat 8 (0x01 + 16 * rr.code), lo n, hi n] ∧
      exec (.loadPair rr n) s = .next { s.writeRR rr n with cpu.stepCost := 12 }) ∧
    (encode (.ld_ata16_SP a) = [0x08#8, lo a, hi a] ∧
      exec (.ld_ata16_SP a) s =
        .next { (s.memWrite a (lo s.cpu.sp)).memWrite (a + 1#16) (hi s.cpu.sp) with
          cpu := { s.cpu with stepCost := 20 } }) ∧
    (encode .ld_SP_HL = [0xF9#8] ∧
      exec .ld_SP_HL s = .next { s with cpu.sp := s.hl, cpu.stepCost := 8 })

/-- PUSH and POP (40_load.md R190-R193; 10_state.md R23). PUSH AF pushes F's low nibble as zero, and
POP AF discards the popped low nibble. -/
def Obligations.PushAndPop : Prop :=
  ∀ (rr : StackRR) (s : State),
    encode (.push rr) = [BitVec.ofNat 8 (0xC5 + 16 * rr.code)] ∧
    encode (.pop rr) = [BitVec.ofNat 8 (0xC1 + 16 * rr.code)] ∧
    exec (.push rr) s =
      .next { s.pushed
          (match rr with
            | .bc => pair s.cpu.b s.cpu.c
            | .de => pair s.cpu.d s.cpu.e
            | .hl => pair s.cpu.h s.cpu.l
            | .af => pair s.cpu.a (s.cpu.f &&& 0xF0#8)) with
        cpu := { s.cpu with sp := s.cpu.sp - 2#16, stepCost := 16 } } ∧
    exec (.pop rr) s =
      .next
        (match rr with
          | .bc => { s with
              cpu.b := hi s.popped, cpu.c := lo s.popped, cpu.sp := s.cpu.sp + 2#16, cpu.stepCost := 12 }
          | .de => { s with
              cpu.d := hi s.popped, cpu.e := lo s.popped, cpu.sp := s.cpu.sp + 2#16, cpu.stepCost := 12 }
          | .hl => { s with
              cpu.h := hi s.popped, cpu.l := lo s.popped, cpu.sp := s.cpu.sp + 2#16, cpu.stepCost := 12 }
          | .af => { s with
              cpu.a := hi s.popped, cpu.f := lo s.popped &&& 0xF0#8, cpu.sp := s.cpu.sp + 2#16
              cpu.stepCost := 12 })

/-- What is pushed is what is popped (40_load.md R190), where the two addresses are two different
memory cells that the DMA does not block: PUSH then POP restores the pair and SP, CALL then RET
returns to the instruction after the call, and so does RETI after an interrupt service. -/
def Obligations.StackRoundTrip : Prop :=
  ∀ (s : State) (c d : MemCell), s.cell? (s.cpu.sp - 1#16) = some c → s.cell? (s.cpu.sp - 2#16) = some d →
    c ≠ d → s.blocked (s.cpu.sp - 1#16) = false → s.blocked (s.cpu.sp - 2#16) = false →
    (∀ rr, ∃ t u, exec (.push rr) s = .next t ∧ exec (.pop rr) t = .next u ∧
      u.readStackRR rr = s.readStackRR rr ∧ u.cpu.sp = s.cpu.sp) ∧
    (∀ a, ∃ t u, exec (.call_a16 a) s = .next t ∧ t.cpu.pc = a ∧ exec .ret t = .next u ∧
      u.cpu.pc = s.cpu.pc ∧ u.cpu.sp = s.cpu.sp) ∧
    ∃ u, exec .reti s.serviceInterrupt = .next u ∧ u.cpu.pc = s.returnAddress ∧
      u.cpu.sp = s.cpu.sp ∧ u.cpu.ime = true

/-! ## 8-bit arithmetic -/

/-- ADD, ADC, SUB, SBC and CP (41_alu8.md R200, R201, R202, R203, R207), on unbounded integers as the
rules state them; nothing but A, F and the cost changes. -/
def Obligations.AddSubtractCompare : Prop :=
  ∀ (src : AluSrc) (s : State),
    let a : Int := s.cpu.a.toNat
    let v : Int := (s.aluOperand src).toNat
    let c : Int := s.carryIn
    (∀ op, encode (.alu op src) =
      match src with
      | .r8 k => [BitVec.ofNat 8 (0x80 + 8 * op.code + k.code)]
      | .imm n => [BitVec.ofNat 8 (0xC6 + 8 * op.code), n]) ∧
    (∃ f, exec (.alu .add src) s =
        .next { s with cpu.a := BitVec.ofInt 8 (a + v), cpu.f := f, cpu.stepCost := aluCost src } ∧
      FlagsWritten s.cpu.f f ((a + v) % 256 = 0) False (a % 16 + v % 16 > 0xF) (a + v > 0xFF)) ∧
    (∃ f, exec (.alu .adc src) s =
        .next { s with cpu.a := BitVec.ofInt 8 (a + v + c), cpu.f := f, cpu.stepCost := aluCost src } ∧
      FlagsWritten s.cpu.f f ((a + v + c) % 256 = 0) False (a % 16 + v % 16 + c > 0xF)
        (a + v + c > 0xFF)) ∧
    (∃ f, exec (.alu .sub src) s =
        .next { s with cpu.a := BitVec.ofInt 8 (a - v), cpu.f := f, cpu.stepCost := aluCost src } ∧
      FlagsWritten s.cpu.f f ((a - v) % 256 = 0) True (a % 16 < v % 16) (a < v)) ∧
    (∃ f, exec (.alu .sbc src) s =
        .next { s with cpu.a := BitVec.ofInt 8 (a - v - c), cpu.f := f, cpu.stepCost := aluCost src } ∧
      FlagsWritten s.cpu.f f ((a - v - c) % 256 = 0) True (a % 16 < v % 16 + c) (a < v + c)) ∧
    (∃ f, exec (.alu .cp src) s = .next { s with cpu.f := f, cpu.stepCost := aluCost src } ∧
      FlagsWritten s.cpu.f f ((a - v) % 256 = 0) True (a % 16 < v % 16) (a < v))

/-- AND, XOR and OR (41_alu8.md R204, R205, R206). -/
def Obligations.LogicOperations : Prop :=
  ∀ (src : AluSrc) (s : State),
    let v := s.aluOperand src
    (∀ op, encode (.alu op src) =
      match src with
      | .r8 k => [BitVec.ofNat 8 (0x80 + 8 * op.code + k.code)]
      | .imm n => [BitVec.ofNat 8 (0xC6 + 8 * op.code), n]) ∧
    (∃ f, exec (.alu .and src) s =
        .next { s with cpu.a := s.cpu.a &&& v, cpu.f := f, cpu.stepCost := aluCost src } ∧
      FlagsWritten s.cpu.f f (s.cpu.a &&& v = 0#8) False True False) ∧
    (∃ f, exec (.alu .xor src) s =
        .next { s with cpu.a := s.cpu.a ^^^ v, cpu.f := f, cpu.stepCost := aluCost src } ∧
      FlagsWritten s.cpu.f f (s.cpu.a ^^^ v = 0#8) False False False) ∧
    (∃ f, exec (.alu .or src) s =
        .next { s with cpu.a := s.cpu.a ||| v, cpu.f := f, cpu.stepCost := aluCost src } ∧
      FlagsWritten s.cpu.f f (s.cpu.a ||| v = 0#8) False False False)

/-- INC and DEC of a register or of (HL) (41_alu8.md R208-R211): C is kept; on (HL) one read and one
write of the same byte. -/
def Obligations.IncrementDecrement : Prop :=
  ∀ (k : R8) (s : State),
    let v := (s.readR8 k).toNat
    encode (.inc k) = [BitVec.ofNat 8 (0x04 + 8 * k.code)] ∧
    encode (.dec k) = [BitVec.ofNat 8 (0x05 + 8 * k.code)] ∧
    (∃ f, exec (.inc k) s =
        .next { s.writeR8 k (BitVec.ofNat 8 (v + 1)) with
          cpu := { (s.writeR8 k (BitVec.ofNat 8 (v + 1))).cpu with
            f := f, stepCost := if k = .atHL then 12 else 4 } } ∧
      FlagsWritten s.cpu.f f (v = 0xFF) False (v % 16 = 0xF) (s.flagC = true)) ∧
    ∃ f, exec (.dec k) s =
        .next { s.writeR8 k (BitVec.ofNat 8 (v + 255)) with
          cpu := { (s.writeR8 k (BitVec.ofNat 8 (v + 255))).cpu with
            f := f, stepCost := if k = .atHL then 12 else 4 } } ∧
      FlagsWritten s.cpu.f f (v = 1) True (v % 16 = 0) (s.flagC = true)

/-- DAA (41_alu8.md R212), on unbounded integers: N is kept, and C after a subtraction. -/
def Obligations.DecimalAdjust : Prop :=
  ∀ s : State,
    let a : Int := s.cpu.a.toNat
    let r : Int :=
      if s.flagN then a - (if s.flagC then 0x60 else 0) - (if s.flagH then 0x06 else 0)
      else a + (if s.flagC = true ∨ a > 0x99 then 0x60 else 0) +
        (if s.flagH = true ∨ a % 16 > 0x09 then 0x06 else 0)
    encode .daa = [0x27#8] ∧
    ∃ f, exec .daa s = .next { s with cpu.a := BitVec.ofInt 8 r, cpu.f := f, cpu.stepCost := 4 } ∧
      FlagsWritten s.cpu.f f (r % 256 = 0) (s.flagN = true) False
        (s.flagC = true ∨ (s.flagN = false ∧ a > 0x99))

/-- What DAA is for (41_alu8.md R200-R203, R212): after an addition or a subtraction of two decimal
bytes, with or without the carry, it makes A the decimal result modulo 100, C the decimal carry or
borrow, and Z the zero test of the result. -/
def Obligations.DecimalArithmetic : Prop :=
  ∀ (s : State) (x y : Nat), x < 100 → y < 100 → s.cpu.a = bcd x →
    (∃ t u, exec (.add_A_d8 (bcd y)) s = .next t ∧ exec .daa t = .next u ∧
      u.cpu.a = bcd ((x + y) % 100) ∧ (u.flagC = true ↔ 100 ≤ x + y) ∧
      (u.flagZ = true ↔ (x + y) % 100 = 0)) ∧
    (∃ t u, exec (.adc_A_d8 (bcd y)) s = .next t ∧ exec .daa t = .next u ∧
      u.cpu.a = bcd ((x + y + s.carryIn) % 100) ∧ (u.flagC = true ↔ 100 ≤ x + y + s.carryIn) ∧
      (u.flagZ = true ↔ (x + y + s.carryIn) % 100 = 0)) ∧
    (∃ t u, exec (.sub_d8 (bcd y)) s = .next t ∧ exec .daa t = .next u ∧
      u.cpu.a = bcd ((100 + x - y) % 100) ∧ (u.flagC = true ↔ x < y) ∧
      (u.flagZ = true ↔ x = y)) ∧
    ∃ t u, exec (.sbc_A_d8 (bcd y)) s = .next t ∧ exec .daa t = .next u ∧
      u.cpu.a = bcd ((100 + x - (y + s.carryIn)) % 100) ∧ (u.flagC = true ↔ x < y + s.carryIn) ∧
      (u.flagZ = true ↔ (100 + x - (y + s.carryIn)) % 100 = 0)

/-- CPL, SCF and CCF (41_alu8.md R213, R214, R215). -/
def Obligations.ComplementAndCarry : Prop :=
  ∀ s : State,
    (encode .cpl = [0x2F#8] ∧
      ∃ f, exec .cpl s = .next { s with cpu.a := ~~~s.cpu.a, cpu.f := f, cpu.stepCost := 4 } ∧
        FlagsWritten s.cpu.f f (s.flagZ = true) True True (s.flagC = true)) ∧
    (encode .scf = [0x37#8] ∧
      ∃ f, exec .scf s = .next { s with cpu.f := f, cpu.stepCost := 4 } ∧
        FlagsWritten s.cpu.f f (s.flagZ = true) False False True) ∧
    (encode .ccf = [0x3F#8] ∧
      ∃ f, exec .ccf s = .next { s with cpu.f := f, cpu.stepCost := 4 } ∧
        FlagsWritten s.cpu.f f (s.flagZ = true) False False (s.flagC = false))

/-! ## 16-bit arithmetic -/

/-- ADD HL,rr, INC rr and DEC rr (42_alu16.md R230, R231, R232). -/
def Obligations.PairArithmetic : Prop :=
  ∀ (rr : RR) (s : State),
    let h := s.hl.toNat
    let v := (s.readRR rr).toNat
    encode (.addHl rr) = [BitVec.ofNat 8 (0x09 + 16 * rr.code)] ∧
    encode (.incPair rr) = [BitVec.ofNat 8 (0x03 + 16 * rr.code)] ∧
    encode (.decPair rr) = [BitVec.ofNat 8 (0x0B + 16 * rr.code)] ∧
    (∃ f, exec (.addHl rr) s =
        .next { s with
          cpu.h := hi (BitVec.ofNat 16 (h + v)), cpu.l := lo (BitVec.ofNat 16 (h + v)), cpu.f := f
          cpu.stepCost := 8 } ∧
      FlagsWritten s.cpu.f f (s.flagZ = true) False (h % 0x1000 + v % 0x1000 > 0x0FFF)
        (h + v > 0xFFFF)) ∧
    exec (.incPair rr) s =
      .next { s.writeRR rr (BitVec.ofNat 16 (v + 1)) with cpu.stepCost := 8 } ∧
    exec (.decPair rr) s =
      .next { s.writeRR rr (BitVec.ofNat 16 (v + 0xFFFF)) with cpu.stepCost := 8 }

/-- ADD SP,e8 and LD HL,SP+e8 (42_alu16.md R233, R234): the signed sum, with the flags of the unsigned
addition to SP's low byte. -/
def Obligations.StackPointerOffset : Prop :=
  ∀ (e : Byte) (s : State),
    let r := BitVec.ofInt 16 ((s.cpu.sp.toNat : Int) + e.toInt)
    let half := s.cpu.sp.toNat % 16 + e.toNat % 16 > 0xF
    let full := s.cpu.sp.toNat % 256 + e.toNat > 0xFF
    encode (.add_SP_e8 e) = [0xE8#8, e] ∧ encode (.ld_HL_SPe8 e) = [0xF8#8, e] ∧
    (∃ f, exec (.add_SP_e8 e) s =
        .next { s with cpu.sp := r, cpu.f := f, cpu.stepCost := 16 } ∧
      FlagsWritten s.cpu.f f False False half full) ∧
    ∃ f, exec (.ld_HL_SPe8 e) s =
        .next { s with cpu.h := hi r, cpu.l := lo r, cpu.f := f, cpu.stepCost := 12 } ∧
      FlagsWritten s.cpu.f f False False half full

/-! ## Rotates and bits -/

/-- RLCA, RRCA, RLA and RRA (43_bitops.md R240-R243): Z is always cleared. -/
def Obligations.AccumulatorRotates : Prop :=
  ∀ s : State,
    let v := s.cpu.a.toNat
    encode .rlca = [0x07#8] ∧ encode .rrca = [0x0F#8] ∧ encode .rla = [0x17#8] ∧ encode .rra = [0x1F#8] ∧
    ∀ p ∈ [(Instr.rlca, RotOp.rlc), (.rrca, .rrc), (.rla, .rl), (.rra, .rr)],
      ∃ f, exec p.1 s =
          .next { s with
            cpu.a := BitVec.ofNat 8 (rotateResult p.2 v s.carryIn), cpu.f := f, cpu.stepCost := 4 } ∧
        FlagsWritten s.cpu.f f False False False (rotateCarry p.2 v)

/-- RLC, RRC, RL, RR, SLA, SRA, SWAP and SRL of a register or of (HL) (43_bitops.md R244-R251): Z from
the result; on (HL) one read and one write of the same byte. -/
def Obligations.RotatesAndShifts : Prop :=
  ∀ (o : RotOp) (k : R8) (s : State),
    let v := (s.readR8 k).toNat
    let w := rotateResult o v s.carryIn
    encode (.rotate o k) = [0xCB#8, BitVec.ofNat 8 (8 * o.code + k.code)] ∧
    ∃ f, exec (.rotate o k) s =
        .next { s.writeR8 k (BitVec.ofNat 8 w) with
          cpu := { (s.writeR8 k (BitVec.ofNat 8 w)).cpu with
            f := f, stepCost := if k = .atHL then 16 else 8 } } ∧
      FlagsWritten s.cpu.f f (w = 0) False False (rotateCarry o v)

/-- BIT, RES and SET (43_bitops.md R252, R253, R254): BIT writes nothing back and keeps C; RES and SET
write no flag. -/
def Obligations.SingleBits : Prop :=
  ∀ (b : Fin 8) (k : R8) (s : State),
    let v := s.readR8 k
    encode (.bitTest b k) = [0xCB#8, BitVec.ofNat 8 (0x40 + 8 * b.val + k.code)] ∧
    encode (.bitReset b k) = [0xCB#8, BitVec.ofNat 8 (0x80 + 8 * b.val + k.code)] ∧
    encode (.bitSet b k) = [0xCB#8, BitVec.ofNat 8 (0xC0 + 8 * b.val + k.code)] ∧
    (∃ f, exec (.bitTest b k) s =
        .next { s with cpu.f := f, cpu.stepCost := if k = .atHL then 12 else 8 } ∧
      FlagsWritten s.cpu.f f (v.getLsbD b.val = false) False True (s.flagC = true)) ∧
    (∃ w : Byte, (∀ m : Fin 8, w.getLsbD m.val = if m = b then false else v.getLsbD m.val) ∧
      exec (.bitReset b k) s =
        .next { s.writeR8 k w with
          cpu := { (s.writeR8 k w).cpu with stepCost := if k = .atHL then 16 else 8 } }) ∧
    ∃ w : Byte, (∀ m : Fin 8, w.getLsbD m.val = if m = b then true else v.getLsbD m.val) ∧
      exec (.bitSet b k) s =
        .next { s.writeR8 k w with
          cpu := { (s.writeR8 k w).cpu with stepCost := if k = .atHL then 16 else 8 } }

/-- The round-trip laws (41_alu8.md R216, 43_bitops.md R255), on registers: ADD then SUB of the same
immediate restores A; INC then DEC restores the register and C; RL then RR restores the register and
C; RLC then RRC and SWAP twice restore the register; RLA then RRA restores A and C; RLCA then RRCA
restores A. Nothing else but F and the cost differs. -/
def Obligations.RoundTripLaws : Prop :=
  ∀ (s : State) (r : Reg8) (n : Byte),
    let back (i j : Instr) (keepsC : Bool) : Prop :=
      ∃ t u, exec i s = .next t ∧ exec j t = .next u ∧
        u = { s with cpu.f := u.cpu.f, cpu.stepCost := u.cpu.stepCost } ∧
        (keepsC = true → u.flagC = s.flagC)
    back (.add_A_d8 n) (.sub_d8 n) false ∧
    back (.inc (.reg r)) (.dec (.reg r)) true ∧
    back (.rotate .rl (.reg r)) (.rotate .rr (.reg r)) true ∧
    back (.rotate .rlc (.reg r)) (.rotate .rrc (.reg r)) false ∧
    back (.rotate .swap (.reg r)) (.rotate .swap (.reg r)) false ∧
    back .rla .rra true ∧
    back .rlca .rrca false

/-! ## Control transfer -/

/-- JP, JP cc, JP HL, JR and JR cc (44_control.md R270-R275). -/
def Obligations.Jumps : Prop :=
  ∀ (cc : Cond) (a : Word) (e : Byte) (s : State),
    let taken : Bool := match cc with
      | .nz => !s.flagZ
      | .z => s.flagZ
      | .nc => !s.flagC
      | .c => s.flagC
    let rel := BitVec.ofInt 16 ((s.cpu.pc.toNat : Int) + e.toInt)
    encode (.jp_a16 a) = [0xC3#8, lo a, hi a] ∧
    encode (.jumpIf cc a) = [BitVec.ofNat 8 (0xC2 + 8 * cc.code), lo a, hi a] ∧
    encode .jp_HL = [0xE9#8] ∧
    encode (.jr_e8 e) = [0x18#8, e] ∧
    encode (.jumpRelativeIf cc e) = [BitVec.ofNat 8 (0x20 + 8 * cc.code), e] ∧
    exec (.jp_a16 a) s = .next { s with cpu.pc := a, cpu.stepCost := 16 } ∧
    exec (.jumpIf cc a) s =
      .next (if taken then { s with cpu.pc := a, cpu.stepCost := 16 }
        else { s with cpu.stepCost := 12 }) ∧
    exec .jp_HL s = .next { s with cpu.pc := s.hl, cpu.stepCost := 4 } ∧
    exec (.jr_e8 e) s = .next { s with cpu.pc := rel, cpu.stepCost := 12 } ∧
    exec (.jumpRelativeIf cc e) s =
      .next (if taken then { s with cpu.pc := rel, cpu.stepCost := 12 }
        else { s with cpu.stepCost := 8 })

/-- CALL, CALL cc and RST (44_control.md R276, R277, R281). -/
def Obligations.Calls : Prop :=
  ∀ (cc : Cond) (a : Word) (y : Fin 8) (s : State),
    let called (target : Word) (t : Nat) : State :=
      { s.pushed s.cpu.pc with
        cpu := { s.cpu with sp := s.cpu.sp - 2#16, pc := target, stepCost := t } }
    encode (.call_a16 a) = [0xCD#8, lo a, hi a] ∧
    encode (.callIf cc a) = [BitVec.ofNat 8 (0xC4 + 8 * cc.code), lo a, hi a] ∧
    encode (.restart y) = [BitVec.ofNat 8 (0xC7 + 8 * y.val)] ∧
    exec (.call_a16 a) s = .next (called a 24) ∧
    exec (.callIf cc a) s =
      .next (if s.cond cc then called a 24 else { s with cpu.stepCost := 12 }) ∧
    exec (.restart y) s = .next (called (BitVec.ofNat 16 (8 * y.val)) 16)

/-- RET, RET cc and RETI (44_control.md R278, R279, R280): RETI sets IME at once. -/
def Obligations.Returns : Prop :=
  ∀ (cc : Cond) (s : State),
    encode .ret = [0xC9#8] ∧ encode .reti = [0xD9#8] ∧
    encode (.retIf cc) = [BitVec.ofNat 8 (0xC0 + 8 * cc.code)] ∧
    exec .ret s =
      .next { s with cpu.pc := s.popped, cpu.sp := s.cpu.sp + 2#16, cpu.stepCost := 16 } ∧
    exec (.retIf cc) s =
      .next (if s.cond cc then
          { s with cpu.pc := s.popped, cpu.sp := s.cpu.sp + 2#16, cpu.stepCost := 20 }
        else { s with cpu.stepCost := 8 }) ∧
    exec .reti s =
      .next { s with
        cpu.pc := s.popped, cpu.sp := s.cpu.sp + 2#16, cpu.ime := true, cpu.stepCost := 16 }

/-! ## CPU control -/

/-- NOP, HALT, STOP, DI and EI (45_system.md R290, R292, R293, R294, R295). STOP resets the timer
counter as a DIV write does (60_exceptions.md R332). -/
def Obligations.CpuControl : Prop :=
  ∀ (n : Byte) (s : State),
    encode .nop = [0x00#8] ∧ encode .halt = [0x76#8] ∧ encode (.stop n) = [0x10#8, n] ∧
    encode .di = [0xF3#8] ∧ encode .ei = [0xFB#8] ∧
    exec .nop s = .next { s with cpu.stepCost := 4 } ∧
    exec .halt s =
      .next (if s.cpu.ime = false ∧ s.pending ≠ 0#5 then { s with cpu.haltBug := true, cpu.stepCost := 4 }
        else { s with cpu.halted := true, cpu.stepCost := 4 }) ∧
    exec (.stop n) s =
      .next { s with
        timer := if s.timer.signal then ({ s.timer with tcount := 0#16 } : Timer).increment
          else { s.timer with tcount := 0#16 }
        cpu.stopped := true, cpu.stepCost := 4 } ∧
    exec .di s = .next { s with cpu.ime := false, cpu.eiPending := false, cpu.stepCost := 4 } ∧
    exec .ei s = .next { s with cpu.eiPending := true, cpu.stepCost := 4 }

/-- PREFIX CB (45_system.md R291): the prefix and its second byte are one instruction, the one that the
CB table gives the byte; it completes, and writes PC, SP, IME and no latch but the cost. -/
def Obligations.PrefixCb : Prop :=
  ∀ (op2 : Byte) (s : State),
    decode [0xCB#8, op2] = .ok (decodeCb op2, []) ∧
    exec (.prefix_CB op2) s = exec (decodeCb op2) s ∧
    ∃ t, exec (.prefix_CB op2) s = .next t ∧
      t.cpu.pc = s.cpu.pc ∧ t.cpu.sp = s.cpu.sp ∧ t.cpu.ime = s.cpu.ime ∧
      t.cpu.eiPending = s.cpu.eiPending ∧ t.cpu.halted = s.cpu.halted ∧
      t.cpu.stopped = s.cpu.stopped ∧ t.cpu.haltBug = s.cpu.haltBug ∧ t.cpu.fault = s.cpu.fault ∧
      t.cpu.stepCost ∈ [8, 12, 16]

/-- The eleven unused opcodes (30_encoding.md R142; 45_system.md R300; 60_exceptions.md R324): the
instruction records the fault and changes nothing else; the step that fetched it reports the fault,
with PC past the byte and the peripherals not advanced; every later step makes no change and reports
it again; and no step reports any other fault, or refuses. With the HALT bug set the step does the
same, but its one fetch clears the bug and leaves PC: the model's reading (log entry 17). -/
def Obligations.IllegalOpcodes : Prop :=
  (∀ p ∈ illegalForms, ∀ s : State,
    encode p.2 = [p.1] ∧
    exec p.2 s =
      .next { s with cpu.fault := some (.illegalOpcode s.cpu.opAddr p.1), cpu.stepCost := 0 } ∧
    (s.Runs → s.cpu.haltBug = false → s.memRead s.cpu.pc = p.1 →
      s.machineStep =
        ({ s with
            cpu.pc := s.cpu.pc + 1#16, cpu.opAddr := s.cpu.pc, cpu.stepCost := 0
            cpu.fault := some (.illegalOpcode s.cpu.pc p.1) },
          .fault (.illegalOpcode s.cpu.pc p.1)) ∧
      step s = .fault (.illegalOpcode s.cpu.pc p.1)) ∧
    (s.Runs → s.cpu.haltBug = true → s.memRead s.cpu.pc = p.1 →
      s.machineStep =
        ({ s with
            cpu.haltBug := false, cpu.opAddr := s.cpu.pc, cpu.stepCost := 0
            cpu.fault := some (.illegalOpcode s.cpu.pc p.1) },
          .fault (.illegalOpcode s.cpu.pc p.1)) ∧
      step s = .fault (.illegalOpcode s.cpu.pc p.1))) ∧
  (∀ (s : State) (f : Fault), s.cpu.fault = some f → s.machineStep = (s, .fault f) ∧ step s = .fault f) ∧
  (∀ (s : State) (f : Fault), step s = .fault f → s.cpu.fault = none →
    ∃ p ∈ illegalForms, f = .illegalOpcode s.cpu.pc p.1 ∧ s.memRead s.cpu.pc = p.1) ∧
  ∀ (s : State) (r : Refusal), step s ≠ .refused r

/-! ## The bus -/

/-- The read decoder, echo RAM, the unusable region and the DMA block (20_memory.md R70, R72, R73,
R74, R83). The cartridge's part is said by the statements about its controllers. -/
def Obligations.BusDecoding : Prop :=
  ∀ (s : State) (a : Word) (v : Byte),
    let n := a.toNat
    (s.dma.active = true → ¬(0xFF80 ≤ n ∧ n ≤ 0xFFFE) → n ≠ 0xFF46 →
      s.memRead a = 0xFF#8 ∧ s.memWrite a v = s) ∧
    (s.dma.active = false ∨ (0xFF80 ≤ n ∧ n ≤ 0xFFFE) ∨ n = 0xFF46 →
      (n < 0x8000 → s.memRead a = s.cart.rom.read (s.cart.romOffset n)) ∧
      (0x8000 ≤ n → n < 0xA000 → s.memRead a = s.vram.read (n - 0x8000)) ∧
      (0xC000 ≤ n → n < 0xE000 → s.memRead a = s.wram.read (n - 0xC000)) ∧
      (0xFE00 ≤ n → n < 0xFEA0 → s.memRead a = s.oam.read (n - 0xFE00)) ∧
      (0xFF80 ≤ n → n < 0xFFFF → s.memRead a = s.hram.read (n - 0xFF80)) ∧
      (n = 0xFFFF → s.memRead a = s.irq.ie)) ∧
    (0xE000 ≤ n → n < 0xFE00 →
      s.memRead a = s.memRead (a - 0x2000#16) ∧ s.memWrite a v = s.memWrite (a - 0x2000#16) v) ∧
    (0xFEA0 ≤ n → n < 0xFF00 → s.memRead a = 0xFF#8 ∧ s.memWrite a v = s) ∧
    (n = 0xFF03 ∨ (0xFF08 ≤ n ∧ n ≤ 0xFF0E) ∨ (0xFF10 ≤ n ∧ n ≤ 0xFF3F) ∨ (0xFF4C ≤ n ∧ n ≤ 0xFF7F) →
      s.memRead a = 0xFF#8 ∧ s.memWrite a v = s)

/-- What an instruction leaves of memory, for every instruction and every address (20_memory.md R70,
R71, R72, R78). `storeAddrs` gives the addresses it stores to. (1) If each of them is blocked, or is a
memory cell other than the one at `b`, then `b` reads as before; STOP is left out because it resets
DIV. (2) If each of them is blocked or is no memory cell, no memory changes. (3) A byte stored to a
memory cell is what is read there. -/
def Obligations.StoreFrame : Prop :=
  (∀ (i : Instr) (s t : State) (b : Word), exec i s = .next t → (∀ n, i ≠ .stop n) →
    (∀ a ∈ storeAddrs i s, s.blocked a = true ∨ ∃ c, s.cell? a = some c ∧ s.cell? b ≠ some c) →
    t.memRead b = s.memRead b) ∧
  (∀ (i : Instr) (s t : State), exec i s = .next t →
    (∀ a ∈ storeAddrs i s, s.blocked a = true ∨ s.cell? a = none) →
    t.vram = s.vram ∧ t.wram = s.wram ∧ t.oam = s.oam ∧ t.hram = s.hram ∧
    t.cart.eram = s.cart.eram ∧ t.cart.rom = s.cart.rom) ∧
  ∀ (s : State) (a : Word) (c : MemCell) (v : Byte), s.cell? a = some c → s.blocked a = false →
    (s.memWrite a v).memRead a = v

/-- The register map (10_state.md R57 and the rules it names; 20_memory.md R71): what a register reads
as after a CPU write of `v` to it; and for the registers whose write has no side effect (20_memory.md
R79), and IF and IE, that the write stores to that register and changes nothing else. -/
def Obligations.RegisterReadBack : Prop :=
  ∀ (s : State) (v : Byte), s.dma.active = false →
    (s.memWrite 0xFF00#16 v).memRead 0xFF00#16 &&& 0xF0#8 = 0xC0#8 ||| (v &&& 0x30#8) ∧
    (s.memWrite 0xFF01#16 v).memRead 0xFF01#16 = v ∧
    (s.memWrite 0xFF02#16 v).memRead 0xFF02#16 = 0x7E#8 ||| (v &&& 0x81#8) ∧
    (s.memWrite 0xFF04#16 v).memRead 0xFF04#16 = 0x00#8 ∧
    (s.memWrite 0xFF05#16 v).memRead 0xFF05#16 = v ∧
    (s.memWrite 0xFF06#16 v).memRead 0xFF06#16 = v ∧
    (s.memWrite 0xFF07#16 v).memRead 0xFF07#16 = 0xF8#8 ||| (v &&& 0x07#8) ∧
    (s.memWrite 0xFF0F#16 v).memRead 0xFF0F#16 = 0xE0#8 ||| (v &&& 0x1F#8) ∧
    (s.memWrite 0xFF40#16 v).memRead 0xFF40#16 = v ∧
    (s.memWrite 0xFF41#16 v).memRead 0xFF41#16 =
      0x80#8 ||| (v &&& 0x78#8) ||| (s.memRead 0xFF41#16 &&& 0x07#8) ∧
    (s.memWrite 0xFF42#16 v).memRead 0xFF42#16 = v ∧
    (s.memWrite 0xFF43#16 v).memRead 0xFF43#16 = v ∧
    s.memWrite 0xFF44#16 v = s ∧ s.memRead 0xFF44#16 = s.ppu.ly ∧
    (s.memWrite 0xFF45#16 v).memRead 0xFF45#16 = v ∧
    (s.memWrite 0xFF46#16 v).memRead 0xFF46#16 = v ∧
    (s.memWrite 0xFF47#16 v).memRead 0xFF47#16 = v ∧
    (s.memWrite 0xFF48#16 v).memRead 0xFF48#16 = v ∧
    (s.memWrite 0xFF49#16 v).memRead 0xFF49#16 = v ∧
    (s.memWrite 0xFF4A#16 v).memRead 0xFF4A#16 = v ∧
    (s.memWrite 0xFF4B#16 v).memRead 0xFF4B#16 = v ∧
    (s.memWrite 0xFFFF#16 v).memRead 0xFFFF#16 = v ∧
    s.memWrite 0xFF01#16 v = { s with serial.sb := v } ∧
    s.memWrite 0xFF02#16 v = { s with serial.sc := v &&& 0x81#8 } ∧
    s.memWrite 0xFF0F#16 v = { s with irq.ifl := BitVec.ofNat 5 v.toNat } ∧
    s.memWrite 0xFF42#16 v = { s with ppu.scy := v } ∧
    s.memWrite 0xFF43#16 v = { s with ppu.scx := v } ∧
    s.memWrite 0xFF47#16 v = { s with ppu.bgp := v } ∧
    s.memWrite 0xFF48#16 v = { s with ppu.obp0 := v } ∧
    s.memWrite 0xFF49#16 v = { s with ppu.obp1 := v } ∧
    s.memWrite 0xFF4A#16 v = { s with ppu.wy := v } ∧
    s.memWrite 0xFF4B#16 v = { s with ppu.wx := v } ∧
    s.memWrite 0xFFFF#16 v = { s with irq.ie := v }

/-- What no step changes: the ROM image, the sizes and the variant of the cartridge (20_memory.md R71),
and the buttons (10_state.md R40). And what no peripheral changes: the CPU, IE (10_state.md R33), the
joypad, the serial registers, the cartridge, and every memory but OAM. -/
def Obligations.UntouchedState : Prop :=
  (∀ s t : State, step s = .next t →
    t.cart.rom = s.cart.rom ∧ t.cart.romBanks = s.cart.romBanks ∧ t.cart.ramSize = s.cart.ramSize ∧
    t.cart.battery = s.cart.battery ∧ t.joypad.pressed = s.joypad.pressed ∧
    (s.cart.mbc = .romOnly → t.cart.mbc = .romOnly) ∧
    (∀ m, s.cart.mbc = .mbc1 m → ∃ m', t.cart.mbc = .mbc1 m') ∧
    (∀ m, s.cart.mbc = .mbc3 m → ∃ m', t.cart.mbc = .mbc3 m') ∧
    ∀ m, s.cart.mbc = .mbc5 m → ∃ m', t.cart.mbc = .mbc5 m') ∧
  ∀ (n : Nat) (s : State),
    let t := State.advance n s
    t.cpu = s.cpu ∧ t.irq.ie = s.irq.ie ∧ t.joypad = s.joypad ∧ t.serial = s.serial ∧
    t.cart = s.cart ∧ t.vram = s.vram ∧ t.wram = s.wram ∧ t.hram = s.hram

/-! ## The cartridge -/

/-- MBC1 (20_memory.md R102, R105, R106, R107, R115). -/
def Obligations.Mbc1Banks : Prop :=
  ∀ (s : State) (m : Mbc1) (a : Word) (v : Byte), s.cart.mbc = .mbc1 m → s.dma.active = false →
    let n := a.toNat
    let hiBank := if m.mode = 0#1 then 32 * m.bank2.toNat + m.bank5.toNat else m.bank5.toNat
    let rbank := if m.mode = 0#1 then 0 else m.bank2.toNat
    let open_ := m.ramEnabled = true ∧ 0 < s.cart.ramSize
    let k := (0x2000 * rbank + (n - 0xA000)) % s.cart.ramSize
    (n < 0x4000 → s.memRead a = s.cart.rom.read n) ∧
    (0x4000 ≤ n → n < 0x8000 →
      s.memRead a = s.cart.rom.read (0x4000 * (hiBank % s.cart.romBanks) + (n - 0x4000))) ∧
    (0xA000 ≤ n → n < 0xC000 → open_ →
      s.memRead a = s.cart.eram.read k ∧
      s.memWrite a v = { s with cart.eram := s.cart.eram.write k v }) ∧
    (0xA000 ≤ n → n < 0xC000 → ¬open_ → s.memRead a = 0xFF#8 ∧ s.memWrite a v = s) ∧
    (n < 0x2000 →
      s.memWrite a v = { s with cart.mbc := .mbc1 { m with ramEnabled := decide (v.toNat % 16 = 0x0A) } }) ∧
    (0x2000 ≤ n → n < 0x4000 →
      s.memWrite a v =
        { s with cart.mbc := .mbc1 { m with
            bank5 := if v.toNat % 32 = 0 then 1#5 else BitVec.ofNat 5 v.toNat } }) ∧
    (0x4000 ≤ n → n < 0x6000 →
      s.memWrite a v = { s with cart.mbc := .mbc1 { m with bank2 := BitVec.ofNat 2 v.toNat } }) ∧
    (0x6000 ≤ n → n < 0x8000 →
      s.memWrite a v = { s with cart.mbc := .mbc1 { m with mode := BitVec.ofNat 1 v.toNat } })

/-- MBC3, whose clock is absent (20_memory.md R102, R108, R109, R110, R115). -/
def Obligations.Mbc3Banks : Prop :=
  ∀ (s : State) (m : Mbc3) (a : Word) (v : Byte), s.cart.mbc = .mbc3 m → s.dma.active = false →
    let n := a.toNat
    let open_ := m.ramEnabled = true ∧ m.sel.toNat ≤ 3 ∧ 0 < s.cart.ramSize
    let k := (0x2000 * m.sel.toNat + (n - 0xA000)) % s.cart.ramSize
    (n < 0x4000 → s.memRead a = s.cart.rom.read n) ∧
    (0x4000 ≤ n → n < 0x8000 →
      s.memRead a = s.cart.rom.read (0x4000 * (m.bank7.toNat % s.cart.romBanks) + (n - 0x4000))) ∧
    (0xA000 ≤ n → n < 0xC000 → open_ →
      s.memRead a = s.cart.eram.read k ∧
      s.memWrite a v = { s with cart.eram := s.cart.eram.write k v }) ∧
    (0xA000 ≤ n → n < 0xC000 → ¬open_ → s.memRead a = 0xFF#8 ∧ s.memWrite a v = s) ∧
    (n < 0x2000 →
      s.memWrite a v = { s with cart.mbc := .mbc3 { m with ramEnabled := decide (v.toNat % 16 = 0x0A) } }) ∧
    (0x2000 ≤ n → n < 0x4000 →
      s.memWrite a v =
        { s with cart.mbc := .mbc3 { m with
            bank7 := if v.toNat % 128 = 0 then 1#7 else BitVec.ofNat 7 v.toNat } }) ∧
    (0x4000 ≤ n → n < 0x6000 → s.memWrite a v = { s with cart.mbc := .mbc3 { m with sel := v } }) ∧
    (0x6000 ≤ n → n < 0x8000 → s.memWrite a v = s)

/-- MBC5, and ROM-only with and without RAM (20_memory.md R102, R103, R104, R112, R113, R114, R115). -/
def Obligations.Mbc5AndRomOnly : Prop :=
  (∀ (s : State) (m : Mbc5) (a : Word) (v : Byte), s.cart.mbc = .mbc5 m → s.dma.active = false →
    let n := a.toNat
    let open_ := m.ramEnabled = true ∧ 0 < s.cart.ramSize
    let k := (0x2000 * m.rbank4.toNat + (n - 0xA000)) % s.cart.ramSize
    (n < 0x4000 → s.memRead a = s.cart.rom.read n) ∧
    (0x4000 ≤ n → n < 0x8000 →
      s.memRead a = s.cart.rom.read (0x4000 * (m.bank9.toNat % s.cart.romBanks) + (n - 0x4000))) ∧
    (0xA000 ≤ n → n < 0xC000 → open_ →
      s.memRead a = s.cart.eram.read k ∧
      s.memWrite a v = { s with cart.eram := s.cart.eram.write k v }) ∧
    (0xA000 ≤ n → n < 0xC000 → ¬open_ → s.memRead a = 0xFF#8 ∧ s.memWrite a v = s) ∧
    (n < 0x2000 →
      s.memWrite a v = { s with cart.mbc := .mbc5 { m with ramEnabled := decide (v.toNat % 16 = 0x0A) } }) ∧
    (0x2000 ≤ n → n < 0x3000 →
      s.memWrite a v =
        { s with cart.mbc := .mbc5 { m with
            bank9 := BitVec.ofNat 9 (256 * (m.bank9.toNat / 256) + v.toNat) } }) ∧
    (0x3000 ≤ n → n < 0x4000 →
      s.memWrite a v =
        { s with cart.mbc := .mbc5 { m with
            bank9 := BitVec.ofNat 9 (256 * (v.toNat % 2) + m.bank9.toNat % 256) } }) ∧
    (0x4000 ≤ n → n < 0x6000 →
      s.memWrite a v = { s with cart.mbc := .mbc5 { m with rbank4 := BitVec.ofNat 4 v.toNat } }) ∧
    (0x6000 ≤ n → n < 0x8000 → s.memWrite a v = s)) ∧
  ∀ (s : State) (a : Word) (v : Byte), s.cart.mbc = .romOnly → s.dma.active = false →
    let n := a.toNat
    let k := (n - 0xA000) % s.cart.ramSize
    (n < 0x8000 → s.memRead a = s.cart.rom.read n ∧ s.memWrite a v = s) ∧
    (0xA000 ≤ n → n < 0xC000 → s.cart.ramSize = 0 → s.memRead a = 0xFF#8 ∧ s.memWrite a v = s) ∧
    (0xA000 ≤ n → n < 0xC000 → 0 < s.cart.ramSize →
      s.memRead a = s.cart.eram.read k ∧
      s.memWrite a v = { s with cart.eram := s.cart.eram.write k v })

/-! ## The timer, the DMA engine and the joypad -/

/-- The overflow and the reload (60_exceptions.md R330, R331, R334): when a falling edge meets TIMA =
0xFF with no reload pending, TIMA reads 0 for four T-cycles; then it takes TMA, and the timer
interrupt is requested, not sooner. -/
def Obligations.TimerOverflow : Prop :=
  ∀ s : State, s.timer.tima = 0xFF#8 → s.timer.reloadCnt = 0 → s.timer.signal = true →
    ({ s.timer with tcount := s.timer.tcount + 1#16 } : Timer).signal = false →
    (∀ n, 1 ≤ n → n ≤ 4 →
      (State.advance n s).timer.tima = 0x00#8 ∧
      (State.advance n s).irq.ifl.getLsbD 2 = s.irq.ifl.getLsbD 2) ∧
    (State.advance 5 s).timer.tima = s.timer.tma ∧ (State.advance 5 s).timer.reloadCnt = 0 ∧
    (State.advance 5 s).irq.ifl.getLsbD 2 = true

/-- The input signal and the rate (60_exceptions.md R330, R331, R334; 10_state.md R38): TAC bits 1-0
select counter bit k = 9, 3, 5 or 7, and the signal is that bit while TAC bit 2 is set; with the timer
enabled, in any 2^(k+1) T-cycles TIMA counts once, if it neither overflows nor reloads. -/
def Obligations.TimerRate : Prop :=
  ∀ s : State,
    let k := [9, 3, 5, 7].getD (s.timer.tac.toNat % 4) 0
    s.timer.signal = (s.timer.tac.getLsbD 2 && s.timer.tcount.getLsbD k) ∧
    (s.timer.tac.getLsbD 2 = true → s.timer.reloadCnt = 0 → s.timer.tima ≠ 0xFF#8 →
      (State.advance (2 ^ (k + 1)) s).timer =
        { s.timer with
          tima := s.timer.tima + 1#8
          tcount := s.timer.tcount + BitVec.ofNat 16 (2 ^ (k + 1)) })

/-- CPU writes of DIV, TAC, TIMA and TMA (60_exceptions.md R331, R332, R333): the falling edge that a
DIV or a TAC write makes counts, and a TIMA write cancels a pending reload. -/
def Obligations.TimerWrites : Prop :=
  ∀ (s : State) (v : Byte), s.dma.active = false →
    let counted (t : Timer) : Timer :=
      if t.tima = 0xFF#8 then { t with tima := 0x00#8, reloadCnt := 4 } else { t with tima := t.tima + 1#8 }
    let cleared := { s.timer with tcount := 0#16 }
    let selected := { s.timer with tac := BitVec.ofNat 3 v.toNat }
    s.memWrite 0xFF04#16 v = { s with timer := if s.timer.signal then counted cleared else cleared } ∧
    s.memWrite 0xFF07#16 v =
      { s with timer :=
          if s.timer.signal = true ∧ selected.signal = false then counted selected else selected } ∧
    s.memWrite 0xFF05#16 v = { s with timer.tima := v, timer.reloadCnt := 0 } ∧
    s.memWrite 0xFF06#16 v = { s with timer.tma := v }

/-- The OAM DMA (60_exceptions.md R340, R341; 20_memory.md R90): for every V a write of V to FF46
starts a transfer, which is in flight for 640 T-cycles. It stores byte i in T-cycle 4i + 4: what the
read decoder gives at V << 8 plus i once the timer and the PPU have had that T-cycle. For every source
but the page of the registers that is what the decoder gave when the transfer started (within page FE
the transfer copies OAM onto itself). -/
def Obligations.DmaCopies : Prop :=
  ∀ (s : State) (v : Byte),
    let u := s.memWrite 0xFF46#16 v
    let source (i : Nat) : Word := BitVec.ofNat 16 (256 * v.toNat + i)
    u = { s with dma := { reg := v, active := true, src := v, t := 0 } } ∧
    (∀ n, n < 640 → (State.advance n u).dma.active = true) ∧
    (State.advance 640 u).dma.active = false ∧
    (∀ i, i < 160 →
      (State.advance 640 u).oam.read i =
        (State.advance (4 * i + 3) u).timerTick.ppuTick.busRead (source i)) ∧
    (v ≠ 0xFF#8 → ∀ i, i < 160 → (State.advance 640 u).oam.read i = s.busRead (source i))

/-- The joypad (10_state.md R39, R40; 60_exceptions.md R345, R396): the lines, the P1 read value, the
button calls, which button each index is, and a P1 write, with the edge detector around each. -/
def Obligations.JoypadLines : Prop :=
  (∀ j : Joypad,
    let dir : Bool := !j.sel.getLsbD 0
    let act : Bool := !j.sel.getLsbD 1
    j.lines.getLsbD 0 = !((dir && j.pressed.right) || (act && j.pressed.a)) ∧
    j.lines.getLsbD 1 = !((dir && j.pressed.left) || (act && j.pressed.b)) ∧
    j.lines.getLsbD 2 = !((dir && j.pressed.up) || (act && j.pressed.select)) ∧
    j.lines.getLsbD 3 = !((dir && j.pressed.down) || (act && j.pressed.start)) ∧
    j.read.toNat = 0xC0 + 16 * j.sel.toNat + j.lines.toNat) ∧
  (∀ (s : State) (j : Joypad),
    let fell := ∃ k, k < 4 ∧ s.joypad.lines.getLsbD k = true ∧ j.lines.getLsbD k = false
    (fell → s.joypadEvent j = { s with joypad := j, irq.ifl := s.irq.ifl ||| 0b10000#5 }) ∧
    (¬fell → s.joypadEvent j = { s with joypad := j })) ∧
  (∀ (p : Buttons) (v : Bool),
    p.set 0 v = { p with down := v } ∧ p.set 1 v = { p with up := v } ∧
    p.set 2 v = { p with left := v } ∧ p.set 3 v = { p with right := v } ∧
    p.set 4 v = { p with a := v } ∧ p.set 5 v = { p with b := v } ∧
    p.set 6 v = { p with select := v } ∧ p.set 7 v = { p with start := v }) ∧
  (∀ (s : State) (i : Fin 8),
    s.keyPress i.val =
      .ok (s.joypadEvent { s.joypad with pressed := s.joypad.pressed.set i true }) ∧
    s.keyRelease i.val =
      .ok (s.joypadEvent { s.joypad with pressed := s.joypad.pressed.set i false })) ∧
  (∀ (s : State) (i : Nat), 8 ≤ i →
    s.keyPress i = .error .invalidButton ∧ s.keyRelease i = .error .invalidButton) ∧
  ∀ (s : State) (v : Byte), s.dma.active = false →
    s.memWrite 0xFF00#16 v =
      s.joypadEvent { s.joypad with sel := BitVec.ofNat 2 (v.toNat / 16) }

/-! ## The PPU -/

/-- The dot clock and the VBlank (60_exceptions.md R350, R351; 70_reset_and_hazards.md R402): with the
LCD on, the position moves on by one dot per T-cycle through a frame of 70,224; the VBlank event is at
position 65,664 (LY = 144, dot 0), where line 0 is requested and the mode is 1. So from reset the first
VBlank comes after 65,664 T-cycles. -/
def Obligations.VblankTiming : Prop :=
  (∀ (s : State) (n : Nat), s.ppu.lcdOn = true → s.ppu.ly.toNat < 154 → s.ppu.dot < 456 →
    (State.advance n s).ppu.lcdc = s.ppu.lcdc ∧
    (State.advance n s).ppu.position = (s.ppu.position + n) % 70224 ∧
    (State.vblankWithin n s = true ↔ ∃ k, 1 ≤ k ∧ k ≤ n ∧ (s.ppu.position + k) % 70224 = 65664) ∧
    ((s.ppu.position + 1) % 70224 = 65664 →
      s.tick.irq.ifl.getLsbD 0 = true ∧ s.tick.ppu.mode = .vblank)) ∧
  State.vblankWithin 65663 State.reset = false ∧ State.vblankWithin 65664 State.reset = true

/-- The combined STAT line (60_exceptions.md R350, R352, R353): after every dot the line is what the
sources give, and the STAT interrupt is requested exactly when it rises; with the LCD off nothing of
the PPU moves. That the line is evaluated once in a dot, at its end, is the model's reading (log entry
9). -/
def Obligations.StatRisingEdge : Prop :=
  ∀ s : State,
    (s.ppu.lcdOn = true →
      (s.tick.ppu.statLine = true ↔
        (s.tick.ppu.statEn.getLsbD 3 = true ∧ s.tick.ppu.coincidence = true) ∨
        (s.tick.ppu.statEn.getLsbD 0 = true ∧ s.tick.ppu.mode = .hblank) ∨
        (s.tick.ppu.statEn.getLsbD 1 = true ∧ s.tick.ppu.mode = .vblank) ∨
        (s.tick.ppu.statEn.getLsbD 2 = true ∧ s.tick.ppu.mode = .oamScan)) ∧
      s.tick.irq.ifl.getLsbD 1 =
        (s.irq.ifl.getLsbD 1 || (s.tick.ppu.statLine && !s.ppu.statLine))) ∧
    (s.ppu.lcdOn = false → s.tick.ppu = s.ppu ∧ s.tick.irq.ifl.getLsbD 1 = s.irq.ifl.getLsbD 1)

/-- CPU writes of LCDC, STAT and LYC (60_exceptions.md R352, R353, R360; 10_state.md R42, R45;
20_memory.md R79): what each stores, the compare that an LCD switch or an LYC write makes, and the
evaluation of the STAT line that ends all three and may request IF bit 1; nothing else changes. That
switching off keeps the window line and the selected sprites, which R360 does not list, is the model's
reading (log entry 12). -/
def Obligations.LcdSwitch : Prop :=
  (∀ (s : State) (v : Byte), s.dma.active = false →
    let q : Ppu := { s.ppu with lcdc := v }
    let off : Ppu :=
      { q with
        ly := 0#8, dot := 0, mode := .hblank, fbIndex := [], fbShade := []
        coincidence := decide (s.ppu.lyc = 0#8) }
    let on : Ppu :=
      { q with
        ly := 0#8, dot := 0, mode := .oamScan, windowLine := 0
        coincidence := decide (s.ppu.lyc = 0#8) }
    let r : Ppu :=
      if s.ppu.lcdc.getLsbD 7 = true ∧ v.getLsbD 7 = false then off
      else if s.ppu.lcdc.getLsbD 7 = false ∧ v.getLsbD 7 = true then on
      else q
    let evaluated (r : Ppu) : State :=
      { s with
        ppu := { r with statLine := r.statValue }
        irq.ifl :=
          if r.statValue = true ∧ s.ppu.statLine = false then s.irq.ifl ||| 0b00010#5 else s.irq.ifl }
    s.memWrite 0xFF40#16 v = evaluated r ∧
    s.memWrite 0xFF41#16 v = evaluated { s.ppu with statEn := BitVec.ofNat 4 (v.toNat / 8) } ∧
    s.memWrite 0xFF45#16 v =
      evaluated { s.ppu with lyc := v, coincidence := decide (s.ppu.ly = v) }) ∧
  ∀ p : Ppu,
    p.statValue = true ↔ p.lcdc.getLsbD 7 = true ∧
      ((p.statEn.getLsbD 3 = true ∧ p.coincidence = true) ∨
        (p.statEn.getLsbD 0 = true ∧ p.mode = .hblank) ∨
        (p.statEn.getLsbD 1 = true ∧ p.mode = .vblank) ∨
        (p.statEn.getLsbD 2 = true ∧ p.mode = .oamScan))

/-- Sprite selection (60_exceptions.md R371): at most ten, in OAM order, each of them a sprite whose Y
range includes the line, and none passed over unless ten earlier ones were taken. -/
def Obligations.SpriteSelection : Prop :=
  ∀ (s : State) (ly : Nat),
    let h : Int := if s.ppu.lcdc.getLsbD 2 then 16 else 8
    let covers (k : Nat) : Prop :=
      let y : Int := (s.oam.read (4 * k)).toNat
      y - 16 ≤ ly ∧ (ly : Int) < y - 16 + h
    let l := s.selectSprites ly
    l.length ≤ 10 ∧ l.Pairwise (· < ·) ∧ (∀ k ∈ l, k < 40 ∧ covers k) ∧
    ∀ k, k < 40 → covers k → k ∉ l → l.length = 10 ∧ ∀ j ∈ l, j < k

/-- Rendering a line (60_exceptions.md R370): row `ly` of both planes takes the pixels, every other
entry is as before, the window line advances iff the window covered some pixel, and nothing else
changes. And when it happens (R350, R351, R370): the T-cycle that arrives at dot 80 of a visible line
with the LCD on renders that line, as the memories and registers stand, and enters mode 3; any other
T-cycle leaves both planes and the selected sprites, and the window line but at the start of a
frame. -/
def Obligations.RenderLine : Prop :=
  (∀ s : State,
    let toDot80 := s.ppu.lcdOn = true ∧ s.ppu.ly.toNat < 144 ∧ s.ppu.dot = 79
    let toFrame := s.ppu.lcdOn = true ∧ s.ppu.ly = 153#8 ∧ s.ppu.dot = 455
    (toDot80 →
      s.tick.ppu = { (s.renderLine s.ppu.ly.toNat).ppu with
        dot := 80, mode := .transfer, statLine := s.tick.ppu.statLine }) ∧
    (¬toDot80 →
      s.tick.ppu.fbIndex = s.ppu.fbIndex ∧ s.tick.ppu.fbShade = s.ppu.fbShade ∧
      s.tick.ppu.lineSprites = s.ppu.lineSprites ∧
      s.tick.ppu.windowLine = if toFrame then 0 else s.ppu.windowLine)) ∧
  ∀ (s : State) (ly : Nat),
    let t := s.renderLine ly
    (∀ x, x < 160 →
      (t.ppu.fbIndex.read (160 * ly + x), t.ppu.fbShade.read (160 * ly + x)) =
        s.ppu.mix (s.bgOrWindow x ly) (s.spritePixel (s.selectSprites ly) x ly)) ∧
    (∀ p, p < 160 * ly ∨ 160 * ly + 160 ≤ p →
      t.ppu.fbIndex.read p = s.ppu.fbIndex.read p ∧ t.ppu.fbShade.read p = s.ppu.fbShade.read p) ∧
    ((∃ x, x < 160 ∧ s.windowCovers x ly = true) →
      t.ppu.windowLine = (s.ppu.windowLine + 1) % 256) ∧
    ((∀ x, x < 160 → s.windowCovers x ly = false) → t.ppu.windowLine = s.ppu.windowLine) ∧
    t = { s with
      ppu := { s.ppu with
        lineSprites := s.selectSprites ly, windowLine := t.ppu.windowLine
        fbIndex := t.ppu.fbIndex, fbShade := t.ppu.fbShade } }

/-- The background and window pixels (60_exceptions.md R372, R373, R374; 10_state.md R55), down to the
two bits of VRAM. -/
def Obligations.BackgroundAndWindow : Prop :=
  ∀ (s : State) (x ly : Nat), x < 160 → ly < 144 →
    let lcdc := s.ppu.lcdc
    let vram (addr : Nat) : Byte := s.vram.read (addr - 0x8000)
    let tile (t : Byte) : Nat :=
      if lcdc.getLsbD 4 then 0x8000 + 16 * t.toNat
      else if t.toNat < 128 then 0x9000 + 16 * t.toNat else 0x8000 + 16 * t.toNat
    let pixel (map px py : Nat) : Nat :=
      let addr := tile (vram (map + 32 * (py / 8) + px / 8)) + 2 * (py % 8)
      2 * ((vram (addr + 1)).getLsbD (7 - px % 8)).toNat + ((vram addr).getLsbD (7 - px % 8)).toNat
    let inWindow := lcdc.getLsbD 5 = true ∧ lcdc.getLsbD 0 = true ∧ s.ppu.wy.toNat ≤ ly ∧
      (s.ppu.wx.toNat : Int) - 7 ≤ x
    (s.windowCovers x ly = true ↔ inWindow) ∧
    (inWindow →
      (s.bgOrWindow x ly).toNat =
        pixel (if lcdc.getLsbD 6 then 0x9C00 else 0x9800) (x + 7 - s.ppu.wx.toNat) s.ppu.windowLine) ∧
    (¬inWindow → lcdc.getLsbD 0 = true →
      (s.bgOrWindow x ly).toNat =
        pixel (if lcdc.getLsbD 3 then 0x9C00 else 0x9800) ((s.ppu.scx.toNat + x) % 256)
          ((s.ppu.scy.toNat + ly) % 256)) ∧
    (lcdc.getLsbD 0 = false → s.bgOrWindow x ly = 0#2)

/-- Sprite priority and the mix (60_exceptions.md R375, R376): the winner is a selected sprite with a
pixel there that is not transparent, and no other such sprite has a smaller (X, index); there is no
winner iff there is no such sprite, or sprites are off. The background wins over it iff the sprite's
bit 7 is set and the background is not colour 0. And the pixel of a sprite on its line, down to the two
bits of VRAM (R373, R375; 10_state.md R54, R55): the flips of column and row, and the pair of tiles
that a sprite of height 16 takes. -/
def Obligations.SpritePriority : Prop :=
  (∀ (s : State) (sprites : List Nat) (x ly : Nat),
    let drawn (q : SpritePixel) : Prop := ∃ k ∈ sprites, s.spriteAt x ly k = some q
    (s.ppu.lcdc.getLsbD 1 = false → s.spritePixel sprites x ly = none) ∧
    (s.ppu.lcdc.getLsbD 1 = true →
      (s.spritePixel sprites x ly = none ↔ ∀ q, ¬drawn q) ∧
      ∀ p, s.spritePixel sprites x ly = some p →
        drawn p ∧ ∀ q, drawn q → p.x < q.x ∨ (p.x = q.x ∧ p.k ≤ q.k))) ∧
  (∀ (s : State) (x ly k : Nat) (q : SpritePixel), s.spriteAt x ly k = some q →
    q.k = k ∧ q.x = (s.oam.read (4 * k + 1)).toNat ∧ q.attr = s.oam.read (4 * k + 3) ∧ q.p ≠ 0#2 ∧
    (q.x : Int) - 8 ≤ x ∧ x < q.x) ∧
  (∀ (s : State) (x ly k : Nat),
    let h := if s.ppu.lcdc.getLsbD 2 then 16 else 8
    let sy := (s.oam.read (4 * k)).toNat
    let sx := (s.oam.read (4 * k + 1)).toNat
    let tile := (s.oam.read (4 * k + 2)).toNat
    let attr := s.oam.read (4 * k + 3)
    let col := if attr.getLsbD 5 then 7 - (x + 8 - sx) else x + 8 - sx
    let row := if attr.getLsbD 6 then h - 1 - (ly + 16 - sy) else ly + 16 - sy
    let paired := if h = 8 then tile else 2 * (tile / 2) + row / 8
    let lo := s.vram.read (16 * paired + 2 * (row % 8))
    let hi := s.vram.read (16 * paired + 2 * (row % 8) + 1)
    let pixel := 2 * (hi.getLsbD (7 - col)).toNat + (lo.getLsbD (7 - col)).toNat
    (sy : Int) - 16 ≤ ly → (ly : Int) < sy - 16 + h →
    ∀ q : SpritePixel,
      s.spriteAt x ly k = some q ↔
        (sx : Int) - 8 ≤ x ∧ x < sx ∧ pixel ≠ 0 ∧
        q.x = sx ∧ q.k = k ∧ q.attr = attr ∧ q.p.toNat = pixel) ∧
  ∀ (p : Ppu) (b : BitVec 2) (q : SpritePixel),
    let shadeOf (pal : Byte) (i : BitVec 2) : BitVec 2 := BitVec.ofNat 2 (pal.toNat / 4 ^ i.toNat)
    p.mix b none = (b, shadeOf p.bgp b) ∧
    (q.attr.getLsbD 7 = true ∧ b ≠ 0#2 → p.mix b (some q) = (b, shadeOf p.bgp b)) ∧
    (¬(q.attr.getLsbD 7 = true ∧ b ≠ 0#2) →
      p.mix b (some q) = (q.p, shadeOf (if q.attr.getLsbD 4 then p.obp1 else p.obp0) q.p))

/-! ## Reset and the host -/

/-- The values at reset (70_reset_and_hazards.md R400; 10_state.md R42), for every cartridge and every
draw of the memories, and what each register of the I/O map then reads as (10_state.md R57). The
model's own two latches are 0 (log entry 4). `State.reset` is one of these launches (log entries 1 and
2). -/
def Obligations.ResetValues : Prop :=
  (∀ (cart : Cart) (vram wram oam hram : Memory),
    let s := State.launch cart vram wram oam hram
    s.cpu.a = 0x01#8 ∧ s.cpu.f = 0xB0#8 ∧ s.cpu.b = 0x00#8 ∧ s.cpu.c = 0x13#8 ∧ s.cpu.d = 0x00#8 ∧
    s.cpu.e = 0xD8#8 ∧ s.cpu.h = 0x01#8 ∧ s.cpu.l = 0x4D#8 ∧ s.cpu.sp = 0xFFFE#16 ∧
    s.cpu.pc = 0x0100#16 ∧ s.cpu.ime = false ∧ s.cpu.eiPending = false ∧ s.cpu.halted = false ∧
    s.cpu.stopped = false ∧ s.cpu.haltBug = false ∧ s.cpu.fault = none ∧
    s.irq.ifl = 0x01#5 ∧ s.irq.ie = 0x00#8 ∧
    s.timer.tcount = 0xABCC#16 ∧ s.timer.tima = 0x00#8 ∧ s.timer.tma = 0x00#8 ∧ s.timer.tac = 0b000#3 ∧
    s.timer.reloadCnt = 0 ∧ s.joypad.sel = 0b00#2 ∧
    (∀ i : Fin 8, s.joypad.pressed.set i false = s.joypad.pressed) ∧
    s.ppu.lcdc = 0x91#8 ∧ s.ppu.statEn = 0#4 ∧ s.ppu.scy = 0x00#8 ∧ s.ppu.scx = 0x00#8 ∧
    s.ppu.ly = 0#8 ∧ s.ppu.lyc = 0x00#8 ∧ s.dma.reg = 0xFF#8 ∧ s.ppu.bgp = 0xFC#8 ∧
    s.ppu.obp0 = 0xFF#8 ∧ s.ppu.obp1 = 0xFF#8 ∧ s.ppu.wy = 0x00#8 ∧ s.ppu.wx = 0x00#8 ∧
    s.ppu.dot = 0 ∧ s.ppu.mode = .oamScan ∧ s.ppu.windowLine = 0 ∧ s.ppu.statLine = false ∧
    s.ppu.coincidence = true ∧ s.cpu.opAddr = 0x0000#16 ∧ s.cpu.stepCost = 0 ∧
    s.ppu.lineSprites = [] ∧ (∀ p, s.ppu.fbIndex.read p = 0#2) ∧ (∀ p, s.ppu.fbShade.read p = 0#2) ∧
    s.dma.active = false ∧ s.dma.src = 0x00#8 ∧ s.dma.t = 0 ∧ s.serial.sb = 0x00#8 ∧
    s.serial.sc = 0x00#8 ∧
    (∀ r ∈ ([(0xFF00#16, 0xCF#8), (0xFF01#16, 0x00#8), (0xFF02#16, 0x7E#8), (0xFF04#16, 0xAB#8),
        (0xFF05#16, 0x00#8), (0xFF06#16, 0x00#8), (0xFF07#16, 0xF8#8), (0xFF0F#16, 0xE1#8),
        (0xFF40#16, 0x91#8), (0xFF41#16, 0x86#8), (0xFF42#16, 0x00#8), (0xFF43#16, 0x00#8),
        (0xFF44#16, 0x00#8), (0xFF45#16, 0x00#8), (0xFF46#16, 0xFF#8), (0xFF47#16, 0xFC#8),
        (0xFF48#16, 0xFF#8), (0xFF49#16, 0xFF#8), (0xFF4A#16, 0x00#8), (0xFF4B#16, 0x00#8),
        (0xFFFF#16, 0x00#8)] : List (Word × Byte)), s.memRead r.1 = r.2) ∧
    s.vram = vram ∧ s.wram = wram ∧ s.oam = oam ∧ s.hram = hram ∧ s.cart = cart) ∧
  State.reset = State.launch Cart.blank [] [] [] []

/-- The load checks, in their order (20_memory.md R100, R101, R116), and what an accepted load returns
(60_exceptions.md R395; 70_reset_and_hazards.md R400): the launch of the cartridge that the image and
its type code make, its bank registers at reset (20_memory.md R105, R108, R112), with the memories as
drawn. -/
def Obligations.LoadChecks : Prop :=
  ∀ l : Launch,
    let n := l.rom.length
    let code := (l.rom.getD 0x0147 0#8).toNat
    let sizeCode := (l.rom.getD 0x0149 0#8).toNat
    let badChecksum := l.checkHeaderChecksum = true ∧ headerChecksum l.rom ≠ l.rom.getD 0x014D 0#8
    let supported := code ∈ [0x00, 0x01, 0x02, 0x03, 0x08, 0x09, 0x0F, 0x10, 0x11, 0x12, 0x13, 0x19, 0x1A,
      0x1B, 0x1C, 0x1D, 0x1E]
    let hasRam := code ∈ [0x02, 0x03, 0x08, 0x09, 0x10, 0x12, 0x13, 0x1A, 0x1B, 0x1D, 0x1E]
    let battery := code ∈ [0x03, 0x09, 0x0F, 0x10, 0x13, 0x1B, 0x1E]
    let sizes := [0, 2048, 8192, 32768, 131072, 65536]
    let size := if code ∈ [0x02, 0x03, 0x08, 0x09, 0x10, 0x12, 0x13, 0x1A, 0x1B, 0x1D, 0x1E] then
      sizes.getD sizeCode 0 else 0
    (n < 0x8000 ∨ n % 0x4000 ≠ 0 → new l = .error .invalidRom) ∧
    (0x8000 ≤ n → n % 0x4000 = 0 → badChecksum → new l = .error .invalidRom) ∧
    (0x8000 ≤ n → n % 0x4000 = 0 → ¬badChecksum → ¬supported → new l = .error .unsupportedCartridge) ∧
    (0x8000 ≤ n → n % 0x4000 = 0 → ¬badChecksum → supported → hasRam → 6 ≤ sizeCode →
      new l = .error .invalidRom) ∧
    (0x8000 ≤ n → n % 0x4000 = 0 → ¬badChecksum → supported → (hasRam → sizeCode < 6) →
      (∀ b, l.save = some b → ¬(battery ∧ b.length = size) → new l = .error .invalidSave) ∧
      (l.save = none ∨ (∃ b, l.save = some b ∧ battery ∧ b.length = size) →
        ∃ s, new l = .ok s ∧ s.cart.romBanks = n / 0x4000 ∧ s.cart.ramSize = size ∧
          (s.cart.battery = true ↔ battery) ∧
          (∀ a, a < n → s.cart.rom.read a = l.rom.getD a 0#8) ∧
          (∀ b, l.save = some b → ∀ k, k < size → s.cart.eram.read k = b.getD k 0#8) ∧
          (l.save = none → ∀ k, k < size → s.cart.eram.read k = l.initRam.eram.read k) ∧
          (code ∈ [0x00, 0x08, 0x09] → s.cart.mbc = .romOnly) ∧
          (code ∈ [0x01, 0x02, 0x03] →
            s.cart.mbc = .mbc1 { ramEnabled := false, bank5 := 1, bank2 := 0, mode := 0 }) ∧
          (code ∈ [0x0F, 0x10, 0x11, 0x12, 0x13] →
            s.cart.mbc = .mbc3 { ramEnabled := false, bank7 := 1, sel := 0 }) ∧
          (code ∈ [0x19, 0x1A, 0x1B, 0x1C, 0x1D, 0x1E] →
            s.cart.mbc = .mbc5 { ramEnabled := false, bank9 := 1, rbank4 := 0 }) ∧
          s = State.launch s.cart s.vram s.wram s.oam s.hram ∧
          (∀ a, a < 0x2000 → s.vram.read a = l.initRam.vram.read a) ∧
          (∀ a, a < 0x2000 → s.wram.read a = l.initRam.wram.read a) ∧
          (∀ a, a < 160 → s.oam.read a = l.initRam.oam.read a) ∧
          ∀ a, a < 127 → s.hram.read a = l.initRam.hram.read a))

/-- A launch state is valid (60_exceptions.md R395; 70_reset_and_hazards.md R404): whatever `new`
returns, from canonical draws, meets the invariant and the launch premises. -/
def Obligations.LaunchIsValid : Prop :=
  ∀ (l : Launch) (s : State), new l = .ok s →
    l.initRam.vram.wf = true → l.initRam.wram.wf = true → l.initRam.oam.wf = true →
    l.initRam.hram.wf = true → l.initRam.eram.wf = true →
    s.Inv ∧ s.cpu.fault = none ∧ s.dma.active = false ∧ s.timer.reloadCnt = 0 ∧
    s.cpu.haltBug = false ∧ s.cpu.ime = false ∧ s.cpu.eiPending = false

/-- Saves (20_memory.md R116): a battery cartridge exports all its RAM bytes in address order, and
importing what was exported changes nothing; a cartridge without a battery exports nothing and imports
nothing; a length that differs from the RAM size is refused. -/
def Obligations.SaveRoundTrip : Prop :=
  ∀ s : State, s.cart.Inv →
    (s.cart.battery = true →
      s.exportSave.length = s.cart.ramSize ∧
      (∀ k, k < s.cart.ramSize → s.exportSave.getD k 0#8 = s.cart.eram.read k) ∧
      s.importSave s.exportSave = .ok s) ∧
    (s.cart.battery = false →
      s.exportSave = [] ∧ ∀ b, s.importSave b = .error .invalidSave) ∧
    (∀ b, b.length ≠ s.cart.ramSize → s.importSave b = .error .invalidSave) ∧
    ∀ b, s.cart.battery = true → b.length = s.cart.ramSize →
      ∃ t, s.importSave b = .ok t ∧ t = { s with cart.eram := t.cart.eram } ∧
        ∀ k, k < s.cart.ramSize → t.cart.eram.read k = b.getD k 0#8

/-- `step_frame()` ends (60_exceptions.md R397): from every state that meets the invariant it returns
or faults; the bound of log entry 15 never runs out first. -/
def Obligations.FrameEnds : Prop :=
  ∀ s : State, s.Inv → s.stepFrame.2 ≠ .unfinished ∧ ∀ r, s.stepFrame.2 ≠ .refused r

/-! ## The invariant -/

/-- The machine right after reset meets the invariant (70_reset_and_hazards.md R400). -/
def Obligations.ResetMeetsInvariant : Prop := State.reset.Inv

/-- Every step keeps the invariant: F's low nibble is zero (10_state.md R23), the ranges and reserved
bits of 10_state.md R38, R44, R49, R51, R52, the PPU's mode schedule and coincidence flag
(60_exceptions.md R351, R352), the latched STAT line (R353), what the LCD switch leaves (R360), the
bank registers that are never zero (20_memory.md R106, R109), and the canonical form of every
memory. -/
def Obligations.StepKeepsInvariant : Prop := ∀ s t : State, s.Inv → step s = .next t → t.Inv

end
end

