-- ==== Sys2Proof/Laws/Bits.lean ====
section
/-! SUPPORT. Bytes, pairs and the bits of F. -/

namespace Sys2Proof

@[simp] theorem lo_pair (h l : Byte) : lo (pair h l) = l := by
  apply BitVec.eq_of_getLsbD_eq
  intro i hi'
  simp only [lo, pair, BitVec.getLsbD_setWidth, BitVec.getLsbD_append]
  simp [hi']

@[simp] theorem hi_pair (h l : Byte) : hi (pair h l) = h := by
  apply BitVec.eq_of_getLsbD_eq
  intro i hi'
  simp only [hi, pair, BitVec.getLsbD_setWidth, BitVec.getLsbD_ushiftRight, BitVec.getLsbD_append]
  simp [hi']

@[simp] theorem pair_hi_lo (v : Word) : pair (hi v) (lo v) = v := by
  apply BitVec.eq_of_getLsbD_eq
  intro i hi'
  simp only [hi, lo, pair, BitVec.getLsbD_setWidth, BitVec.getLsbD_ushiftRight, BitVec.getLsbD_append]
  by_cases h : i < 8
  · simp [h]
  · have h8 : i - 8 < 8 := by omega
    have h9 : 8 + (i - 8) = i := by omega
    simp [h, h8, h9]

theorem toNat_pair (h l : Byte) : (pair h l).toNat = 256 * h.toNat + l.toNat := by
  have := h.isLt
  have := l.isLt
  simp only [pair, BitVec.toNat_append]
  rw [Nat.shiftLeft_eq, Nat.mul_comm, ← Nat.two_pow_add_eq_or_of_lt (by omega)]

theorem toNat_lo (v : Word) : (lo v).toNat = v.toNat % 256 := by simp [lo]

theorem toNat_hi (v : Word) : (hi v).toNat = v.toNat / 256 := by
  have := v.isLt
  simp [hi, Nat.shiftRight_eq_div_pow]
  omega

/-- The sum with a sign-extended byte, on unbounded integers. -/
theorem add_sext16 (x : Word) (e : Byte) : x + sext16 e = BitVec.ofInt 16 ((x.toNat : Int) + e.toInt) := by
  apply BitVec.eq_of_toInt_eq
  rw [BitVec.toInt_ofInt, BitVec.toInt_add]
  simp only [sext16, BitVec.toInt_signExtend]
  rw [BitVec.toInt_eq_toNat_bmod]
  have h := BitVec.toInt_bmod_cancel e
  simp only [Nat.reducePow] at h
  simp [h]

end Sys2Proof

namespace Sys2Proof.Machine

/-- The address of the high page, on unbounded integers. -/
theorem highPage_eq (n : Byte) : highPage n = BitVec.ofNat 16 (0xFF00 + n.toNat) := by
  revert n
  decide +kernel

/-- A byte of four flags over a low nibble, bit by bit. -/
theorem packFlags_getLsbD (f : Byte) (z n h c : Bool) :
    (packFlags f z n h c).getLsbD 7 = z ∧ (packFlags f z n h c).getLsbD 6 = n ∧
      (packFlags f z n h c).getLsbD 5 = h ∧ (packFlags f z n h c).getLsbD 4 = c := by
  simp only [packFlags, BitVec.getLsbD_append]
  cases z <;> cases n <;> cases h <;> cases c <;> simp [bit]

@[simp] theorem packFlags_low (f : Byte) (z n h c : Bool) :
    packFlags f z n h c &&& 0x0F#8 = f &&& 0x0F#8 := by
  apply BitVec.eq_of_getLsbD_eq
  intro i hi
  have : i = 0 ∨ i = 1 ∨ i = 2 ∨ i = 3 ∨ i = 4 ∨ i = 5 ∨ i = 6 ∨ i = 7 := by omega
  simp only [packFlags, BitVec.getLsbD_and, BitVec.getLsbD_append]
  rcases this with rfl | rfl | rfl | rfl | rfl | rfl | rfl | rfl <;> simp

/-- What `packFlags` writes, in the statements' words. -/
theorem packFlags_written (f : Byte) (z n h c : Bool) :
    FlagsWritten f (packFlags f z n h c) (z = true) (n = true) (h = true) (c = true) := by
  obtain ⟨h7, h6, h5, h4⟩ := packFlags_getLsbD f z n h c
  exact ⟨by rw [h7], by rw [h6], by rw [h5], by rw [h4], packFlags_low ..⟩

/-- `FlagsWritten` of `packFlags`, from what each flag says. -/
theorem packFlags_of {z n h c : Bool} {Z N H C : Prop} (f : Byte) (hz : z = true ↔ Z)
    (hn : n = true ↔ N) (hh : h = true ↔ H) (hc : c = true ↔ C) :
    FlagsWritten f (packFlags f z n h c) Z N H C := by
  obtain ⟨h1, h2, h3, h4, h5⟩ := packFlags_written f z n h c
  exact ⟨h1.trans hz, h2.trans hn, h3.trans hh, h4.trans hc, h5⟩

@[simp] theorem State.flagZ_setFlags (s : State) (z n h c : Bool) :
    (s.setFlags z n h c).flagZ = z := (packFlags_getLsbD s.cpu.f z n h c).1

@[simp] theorem State.flagN_setFlags (s : State) (z n h c : Bool) :
    (s.setFlags z n h c).flagN = n := (packFlags_getLsbD s.cpu.f z n h c).2.1

@[simp] theorem State.flagH_setFlags (s : State) (z n h c : Bool) :
    (s.setFlags z n h c).flagH = h := (packFlags_getLsbD s.cpu.f z n h c).2.2.1

@[simp] theorem State.flagC_setFlags (s : State) (z n h c : Bool) :
    (s.setFlags z n h c).flagC = c := (packFlags_getLsbD s.cpu.f z n h c).2.2.2

/-- A masked byte has no low nibble. -/
@[simp] theorem maskF_low (v : Byte) : v &&& 0xF0#8 &&& 0x0F#8 = 0#8 := by
  rw [BitVec.and_assoc]
  simp

end Sys2Proof.Machine
end

