-- ==== Sys2Proof/Laws/Cells.lean ====
section
/-! SUPPORT. The laws of the sparse arrays: read after write, the canonical form, and that equal
readings make equal arrays. -/

namespace Sys2Proof.Machine

variable {w : Nat}

@[simp] theorem Cells.read_nil (a : Nat) : Cells.read ([] : Cells w) a = unlisted w := rfl

theorem Cells.read_cons (k : Nat) (v : BitVec w) (m : Cells w) (a : Nat) :
    Cells.read ((k, v) :: m) a = if k = a then v else Cells.read m a := rfl

theorem Cells.read_erase (m : Cells w) (a b : Nat) :
    (m.erase a).read b = if b = a then unlisted w else m.read b := by
  induction m with
  | nil => simp [Cells.erase]
  | cons c m ih =>
    obtain ⟨k, v⟩ := c
    simp only [Cells.erase, Cells.read_cons]
    split
    · rename_i hk
      rw [ih]
      split
      · rfl
      · rename_i hb
        simp [hk, Ne.symm hb]
    · rw [Cells.read_cons, ih]; split <;> split <;> simp_all

theorem Cells.read_insert (m : Cells w) (a b : Nat) (v : BitVec w)
    (ha : ∀ c ∈ m, c.1 ≠ a) : (m.insert a v).read b = if b = a then v else m.read b := by
  induction m with
  | nil => simp [Cells.insert, Cells.read_cons, eq_comm]
  | cons c m ih =>
    obtain ⟨k, x⟩ := c
    have hk : k ≠ a := ha (k, x) (by simp)
    simp only [Cells.insert]
    split
    · simp [Cells.read_cons, eq_comm]
    · rw [Cells.read_cons, ih fun c hc => ha c (by simp [hc]), Cells.read_cons]
      split <;> split <;> simp_all

theorem Cells.mem_erase (m : Cells w) (a : Nat) (c : Nat × BitVec w) :
    c ∈ m.erase a ↔ c ∈ m ∧ c.1 ≠ a := by
  induction m with
  | nil => simp [Cells.erase]
  | cons d m ih =>
    obtain ⟨k, v⟩ := d
    simp only [Cells.erase]
    split
    · rw [ih]; constructor
      · rintro ⟨h, h'⟩; exact ⟨List.mem_cons_of_mem _ h, h'⟩
      · rintro ⟨h, h'⟩
        rcases List.mem_cons.1 h with rfl | h
        · contradiction
        · exact ⟨h, h'⟩
    · simp only [List.mem_cons, ih]; constructor
      · rintro (rfl | ⟨h, h'⟩)
        · exact ⟨.inl rfl, by assumption⟩
        · exact ⟨.inr h, h'⟩
      · rintro ⟨rfl | h, h'⟩
        · exact .inl rfl
        · exact .inr ⟨h, h'⟩

/-- Read after write, in every array, canonical or not. -/
theorem Cells.read_write (m : Cells w) (a b : Nat) (v : BitVec w) :
    (m.write a v).read b = if b = a then v else m.read b := by
  unfold Cells.write
  split
  · rename_i h; rw [Cells.read_erase, h]
  · rw [Cells.read_insert _ _ _ _ fun c hc => ((Cells.mem_erase m a c).1 hc).2, Cells.read_erase]
    split <;> simp_all

@[simp] theorem Cells.read_write_same (m : Cells w) (a : Nat) (v : BitVec w) :
    (m.write a v).read a = v := by simp [Cells.read_write]

theorem Cells.read_write_other (m : Cells w) {a b : Nat} (v : BitVec w) (h : b ≠ a) :
    (m.write a v).read b = m.read b := by simp [Cells.read_write, h]

theorem Cells.wf_cons (k : Nat) (v : BitVec w) (m : Cells w) :
    Cells.wf ((k, v) :: m) = true ↔ v ≠ unlisted w ∧ (∀ c ∈ m, k < c.1) ∧ m.wf = true := by
  simp [Cells.wf, and_assoc]

theorem Cells.within_cons (c : Nat × BitVec w) (m : Cells w) (n : Nat) :
    Cells.within (c :: m) n = true ↔ c.1 < n ∧ m.within n = true := by
  simp [Cells.within]

theorem Cells.within_iff (m : Cells w) (n : Nat) : m.within n = true ↔ ∀ c ∈ m, c.1 < n := by
  simp [Cells.within]

theorem Cells.erase_wf (m : Cells w) (a : Nat) (h : m.wf = true) : (m.erase a).wf = true := by
  induction m with
  | nil => exact h
  | cons c m ih =>
    obtain ⟨k, v⟩ := c
    obtain ⟨hv, hk, hm⟩ := (Cells.wf_cons ..).1 h
    simp only [Cells.erase]
    split
    · exact ih hm
    · exact (Cells.wf_cons ..).2
        ⟨hv, fun c hc => hk c ((Cells.mem_erase m a c).1 hc).1, ih hm⟩

theorem Cells.mem_insert (m : Cells w) (a : Nat) (v : BitVec w) (c : Nat × BitVec w) :
    c ∈ m.insert a v ↔ c = (a, v) ∨ c ∈ m := by
  induction m with
  | nil => simp [Cells.insert]
  | cons d m ih =>
    obtain ⟨k, x⟩ := d
    simp only [Cells.insert]
    split
    · simp
    · simp only [List.mem_cons, ih]
      tauto

theorem Cells.insert_wf (m : Cells w) (a : Nat) (v : BitVec w) (hv : v ≠ unlisted w)
    (ha : ∀ c ∈ m, c.1 ≠ a) (h : m.wf = true) : (m.insert a v).wf = true := by
  induction m with
  | nil => simp [Cells.insert, Cells.wf, hv]
  | cons c m ih =>
    obtain ⟨k, x⟩ := c
    obtain ⟨hx, hk, hm⟩ := (Cells.wf_cons ..).1 h
    have hka : k ≠ a := ha (k, x) (by simp)
    simp only [Cells.insert]
    split
    · rename_i hlt
      refine (Cells.wf_cons ..).2 ⟨hv, fun c hc => ?_, h⟩
      rcases List.mem_cons.1 hc with rfl | hc
      · exact hlt
      · exact Nat.lt_trans hlt (hk c hc)
    · refine (Cells.wf_cons ..).2 ⟨hx, fun c hc => ?_, ih (fun c hc => ha c (by simp [hc])) hm⟩
      rcases (Cells.mem_insert m a v c).1 hc with rfl | hc
      · simp only; omega
      · exact hk c hc

/-- A write keeps the canonical form. -/
theorem Cells.write_wf (m : Cells w) (a : Nat) (v : BitVec w) (h : m.wf = true) :
    (m.write a v).wf = true := by
  unfold Cells.write
  split
  · exact Cells.erase_wf m a h
  · exact Cells.insert_wf _ _ _ ‹_› (fun c hc => ((Cells.mem_erase m a c).1 hc).2)
      (Cells.erase_wf m a h)

/-- A write inside the size stays inside it. -/
theorem Cells.write_within (m : Cells w) (a n : Nat) (v : BitVec w) (ha : a < n)
    (h : m.within n = true) : (m.write a v).within n = true := by
  rw [Cells.within_iff] at h ⊢
  intro c hc
  unfold Cells.write at hc
  split at hc
  · exact h c ((Cells.mem_erase m a c).1 hc).1
  · rcases (Cells.mem_insert _ a v c).1 hc with rfl | hc
    · exact ha
    · exact h c ((Cells.mem_erase m a c).1 hc).1

/-- An index below every listed one reads as unlisted. -/
theorem Cells.read_of_lt (m : Cells w) (a : Nat) (h : ∀ c ∈ m, a < c.1) :
    m.read a = unlisted w := by
  induction m with
  | nil => rfl
  | cons c m ih =>
    obtain ⟨k, v⟩ := c
    have hk : a < k := h (k, v) (by simp)
    rw [Cells.read_cons, if_neg (by omega), ih fun c hc => h c (by simp [hc])]

/-- In canonical form, arrays that read alike everywhere are equal data. -/
theorem Cells.ext_of_wf (m n : Cells w) (hm : m.wf = true) (hn : n.wf = true)
    (h : ∀ a, m.read a = n.read a) : m = n := by
  induction m generalizing n with
  | nil =>
    cases n with
    | nil => rfl
    | cons c n =>
      obtain ⟨k, v⟩ := c
      obtain ⟨hv, -, -⟩ := (Cells.wf_cons ..).1 hn
      exact absurd (by simpa [Cells.read_cons] using (h k).symm) hv
  | cons c m ih =>
    obtain ⟨k, v⟩ := c
    obtain ⟨hv, hk, hm'⟩ := (Cells.wf_cons ..).1 hm
    cases n with
    | nil => exact absurd (by simpa [Cells.read_cons] using h k) hv
    | cons d n =>
      obtain ⟨j, x⟩ := d
      obtain ⟨hx, hj, hn'⟩ := (Cells.wf_cons ..).1 hn
      have hkj : k = j := by
        rcases Nat.lt_trichotomy k j with hlt | heq | hlt
        · have h' := h k
          rw [Cells.read_cons, if_pos rfl, Cells.read_cons, if_neg (by omega),
            Cells.read_of_lt n k fun c hc => Nat.lt_trans hlt (hj c hc)] at h'
          exact absurd h' hv
        · exact heq
        · have h' := h j
          rw [Cells.read_cons, if_neg (by omega), Cells.read_cons, if_pos rfl,
            Cells.read_of_lt m j fun c hc => Nat.lt_trans hlt (hk c hc)] at h'
          exact absurd h'.symm hx
      subst hkj
      have hvx : v = x := by simpa [Cells.read_cons] using h k
      subst hvx
      congr 1
      refine ih n hm' hn' fun a => ?_
      by_cases hka : k = a
      · subst hka
        rw [Cells.read_of_lt m k hk, Cells.read_of_lt n k hj]
      · simpa [Cells.read_cons, hka] using h a

/-! Rows, for the framebuffer and for images. -/

theorem Cells.mem_ofList (row : List (BitVec w)) (base : Nat) (c : Nat × BitVec w)
    (h : c ∈ Cells.ofList base row) : base ≤ c.1 ∧ c.1 < base + row.length ∧ c.2 ≠ unlisted w := by
  induction row generalizing base with
  | nil => simp [Cells.ofList] at h
  | cons v row ih =>
    simp only [Cells.ofList] at h
    simp only [List.length_cons]
    split at h
    · have := ih (base + 1) h; exact ⟨by omega, by omega, this.2.2⟩
    · rcases List.mem_cons.1 h with rfl | h
      · exact ⟨by simp, by simp, ‹_›⟩
      · have := ih (base + 1) h; exact ⟨by omega, by omega, this.2.2⟩

theorem Cells.ofList_wf (row : List (BitVec w)) (base : Nat) : (Cells.ofList base row).wf = true := by
  induction row generalizing base with
  | nil => rfl
  | cons v row ih =>
    simp only [Cells.ofList]
    split
    · exact ih _
    · exact (Cells.wf_cons ..).2
        ⟨‹_›, fun c hc => (Cells.mem_ofList row (base + 1) c hc).1, ih _⟩

theorem Cells.read_ofList (row : List (BitVec w)) (base a : Nat) :
    (Cells.ofList base row).read a =
      if base ≤ a then row.getD (a - base) (unlisted w) else unlisted w := by
  induction row generalizing base with
  | nil => simp [Cells.ofList]
  | cons v row ih =>
    simp only [Cells.ofList]
    by_cases hb : base = a
    · subst hb
      split
      · rename_i hv; rw [ih]; simp [hv]
      · simp [Cells.read_cons]
    · have hstep : Cells.read (Cells.ofList (base + 1) row) a =
          if base ≤ a then (v :: row).getD (a - base) (unlisted w) else unlisted w := by
        rw [ih]
        by_cases h : base ≤ a
        · obtain ⟨d, rfl⟩ : ∃ d, a = base + 1 + d := ⟨a - base - 1, by omega⟩
          simp [show base + 1 ≤ base + 1 + d by omega, show base ≤ base + 1 + d by omega,
            show base + 1 + d - base = d + 1 by omega]
        · rw [if_neg (by omega), if_neg h]
      split
      · exact hstep
      · rw [Cells.read_cons, if_neg hb, hstep]

theorem Cells.read_append (m n : Cells w) (a : Nat) (h : ∀ c ∈ m, c.1 ≠ a) :
    Cells.read (m ++ n) a = n.read a := by
  induction m with
  | nil => rfl
  | cons c m ih =>
    obtain ⟨k, v⟩ := c
    have hk : k ≠ a := h (k, v) (by simp)
    rw [List.cons_append, Cells.read_cons, if_neg hk, ih fun c hc => h c (by simp [hc])]

theorem Cells.read_append_left (m n : Cells w) (a : Nat) (h : ∀ c ∈ n, c.1 ≠ a) :
    Cells.read (m ++ n) a = m.read a := by
  induction m with
  | nil =>
    rw [List.nil_append, Cells.read_nil]
    simpa using Cells.read_append n [] a h
  | cons c m ih =>
    obtain ⟨k, v⟩ := c
    rw [List.cons_append, Cells.read_cons, Cells.read_cons, ih]

theorem Cells.read_filter (m : Cells w) (p : Nat × BitVec w → Bool) (a : Nat)
    (h : ∀ v, p (a, v) = true) : Cells.read (m.filter p) a = m.read a := by
  induction m with
  | nil => rfl
  | cons c m ih =>
    obtain ⟨k, v⟩ := c
    rw [List.filter_cons, Cells.read_cons]
    split
    · rw [Cells.read_cons, ih]
    · rw [ih]
      split
      · rename_i hp hk; subst hk; exact absurd (h v) (by simpa using hp)
      · rfl

/-- Reading after a row is replaced: the row inside it, the old entry outside it. -/
theorem Cells.read_writeRow (m : Cells w) (base : Nat) (row : List (BitVec w)) (a : Nat) :
    (m.writeRow base row).read a =
      if base ≤ a ∧ a < base + row.length then row.getD (a - base) (unlisted w) else m.read a := by
  unfold Cells.writeRow
  have hmid := fun c hc => Cells.mem_ofList row base c hc
  by_cases h1 : a < base
  · rw [if_neg (by omega), Cells.read_append_left, Cells.read_append_left]
    · exact Cells.read_filter m _ a (by simp [h1])
    · intro c hc; have := hmid c hc; omega
    · intro c hc; simp [Cells.dropBelow] at hc; omega
  · have hlow : ∀ c ∈ m.takeBelow base, c.1 ≠ a := by
      intro c hc; simp [Cells.takeBelow] at hc; omega
    by_cases h2 : a < base + row.length
    · rw [if_pos ⟨by omega, h2⟩, Cells.read_append_left, Cells.read_append _ _ _ hlow,
        Cells.read_ofList, if_pos (by omega)]
      intro c hc; simp [Cells.dropBelow] at hc; omega
    · rw [if_neg (by omega), List.append_assoc, Cells.read_append _ _ _ hlow, Cells.read_append]
      · exact Cells.read_filter m _ a (by simp; omega)
      · intro c hc; have := hmid c hc; omega

theorem Cells.wf_append (m n : Cells w) (hm : m.wf = true) (hn : n.wf = true)
    (h : ∀ c ∈ m, ∀ d ∈ n, c.1 < d.1) : Cells.wf (m ++ n) = true := by
  induction m with
  | nil => exact hn
  | cons c m ih =>
    obtain ⟨k, v⟩ := c
    obtain ⟨hv, hk, hm'⟩ := (Cells.wf_cons ..).1 hm
    refine (Cells.wf_cons ..).2 ⟨hv, fun d hd => ?_, ih hm' fun c hc => h c (by simp [hc])⟩
    rcases List.mem_append.1 hd with hd | hd
    · exact hk d hd
    · exact h (k, v) (by simp) d hd

theorem Cells.wf_filter (m : Cells w) (p : Nat × BitVec w → Bool) (h : m.wf = true) :
    Cells.wf (m.filter p) = true := by
  induction m with
  | nil => rfl
  | cons c m ih =>
    obtain ⟨k, v⟩ := c
    obtain ⟨hv, hk, hm⟩ := (Cells.wf_cons ..).1 h
    rw [List.filter_cons]
    split
    · exact (Cells.wf_cons ..).2 ⟨hv, fun c hc => hk c (List.mem_of_mem_filter hc), ih hm⟩
    · exact ih hm

/-- Replacing a row keeps the canonical form. -/
theorem Cells.writeRow_wf (m : Cells w) (base : Nat) (row : List (BitVec w)) (h : m.wf = true) :
    (m.writeRow base row).wf = true := by
  unfold Cells.writeRow
  refine Cells.wf_append _ _ (Cells.wf_append _ _ (Cells.wf_filter m _ h) (Cells.ofList_wf row base)
    ?_) (Cells.wf_filter m _ h) ?_
  · intro c hc d hd
    have := Cells.mem_ofList row base d hd
    simp [Cells.takeBelow] at hc; omega
  · intro c hc d hd
    simp [Cells.dropBelow] at hd
    rcases List.mem_append.1 hc with hc | hc
    · simp [Cells.takeBelow] at hc; omega
    · have := Cells.mem_ofList row base c hc; omega

/-- A row inside the size stays inside it. -/
theorem Cells.writeRow_within (m : Cells w) (base n : Nat) (row : List (BitVec w))
    (hn : base + row.length ≤ n) (h : m.within n = true) : (m.writeRow base row).within n = true := by
  rw [Cells.within_iff] at h ⊢
  intro c hc
  simp only [Cells.writeRow, List.mem_append, Cells.takeBelow, Cells.dropBelow] at hc
  rcases hc with (hc | hc) | hc
  · exact h c (List.mem_of_mem_filter hc)
  · have := Cells.mem_ofList row base c hc; omega
  · exact h c (List.mem_of_mem_filter hc)

theorem Cells.takeBelow_within (m : Cells w) (n : Nat) : (m.takeBelow n).within n = true := by
  rw [Cells.within_iff]
  intro c hc
  simpa [Cells.takeBelow] using (List.mem_filter.1 hc).2

theorem Cells.takeBelow_wf (m : Cells w) (n : Nat) (h : m.wf = true) : (m.takeBelow n).wf = true :=
  Cells.wf_filter m _ h

theorem Cells.ofList_replicate (base n : Nat) :
    Cells.ofList base (List.replicate n (unlisted w)) = [] := by
  induction n generalizing base with
  | zero => rfl
  | succ n ih => simp [List.replicate_succ, Cells.ofList, ih]

end Sys2Proof.Machine
end

