-- ==== Sys2Proof/Laws/State.lean ====
section
/-! SUPPORT. One lemma per field per update of State, so that no proof unfolds a record update. -/

namespace Sys2Proof.Machine

/-! ## `setBc` -/

@[simp] theorem State.setBc_cpu_a (s : State) (v : Word) :
    (s.setBc v).cpu.a = s.cpu.a := rfl

@[simp] theorem State.setBc_cpu_f (s : State) (v : Word) :
    (s.setBc v).cpu.f = s.cpu.f := rfl

@[simp] theorem State.setBc_cpu_b (s : State) (v : Word) :
    (s.setBc v).cpu.b = hi v := rfl

@[simp] theorem State.setBc_cpu_c (s : State) (v : Word) :
    (s.setBc v).cpu.c = lo v := rfl

@[simp] theorem State.setBc_cpu_d (s : State) (v : Word) :
    (s.setBc v).cpu.d = s.cpu.d := rfl

@[simp] theorem State.setBc_cpu_e (s : State) (v : Word) :
    (s.setBc v).cpu.e = s.cpu.e := rfl

@[simp] theorem State.setBc_cpu_h (s : State) (v : Word) :
    (s.setBc v).cpu.h = s.cpu.h := rfl

@[simp] theorem State.setBc_cpu_l (s : State) (v : Word) :
    (s.setBc v).cpu.l = s.cpu.l := rfl

@[simp] theorem State.setBc_cpu_sp (s : State) (v : Word) :
    (s.setBc v).cpu.sp = s.cpu.sp := rfl

@[simp] theorem State.setBc_cpu_pc (s : State) (v : Word) :
    (s.setBc v).cpu.pc = s.cpu.pc := rfl

@[simp] theorem State.setBc_cpu_ime (s : State) (v : Word) :
    (s.setBc v).cpu.ime = s.cpu.ime := rfl

@[simp] theorem State.setBc_cpu_eiPending (s : State) (v : Word) :
    (s.setBc v).cpu.eiPending = s.cpu.eiPending := rfl

@[simp] theorem State.setBc_cpu_halted (s : State) (v : Word) :
    (s.setBc v).cpu.halted = s.cpu.halted := rfl

@[simp] theorem State.setBc_cpu_stopped (s : State) (v : Word) :
    (s.setBc v).cpu.stopped = s.cpu.stopped := rfl

@[simp] theorem State.setBc_cpu_haltBug (s : State) (v : Word) :
    (s.setBc v).cpu.haltBug = s.cpu.haltBug := rfl

@[simp] theorem State.setBc_cpu_fault (s : State) (v : Word) :
    (s.setBc v).cpu.fault = s.cpu.fault := rfl

@[simp] theorem State.setBc_cpu_opAddr (s : State) (v : Word) :
    (s.setBc v).cpu.opAddr = s.cpu.opAddr := rfl

@[simp] theorem State.setBc_cpu_stepCost (s : State) (v : Word) :
    (s.setBc v).cpu.stepCost = s.cpu.stepCost := rfl

@[simp] theorem State.setBc_irq (s : State) (v : Word) : (s.setBc v).irq = s.irq := rfl

@[simp] theorem State.setBc_timer (s : State) (v : Word) : (s.setBc v).timer = s.timer := rfl

@[simp] theorem State.setBc_joypad (s : State) (v : Word) : (s.setBc v).joypad = s.joypad := rfl

@[simp] theorem State.setBc_serial (s : State) (v : Word) : (s.setBc v).serial = s.serial := rfl

@[simp] theorem State.setBc_ppu (s : State) (v : Word) : (s.setBc v).ppu = s.ppu := rfl

@[simp] theorem State.setBc_dma (s : State) (v : Word) : (s.setBc v).dma = s.dma := rfl

@[simp] theorem State.setBc_cart (s : State) (v : Word) : (s.setBc v).cart = s.cart := rfl

@[simp] theorem State.setBc_vram (s : State) (v : Word) : (s.setBc v).vram = s.vram := rfl

@[simp] theorem State.setBc_wram (s : State) (v : Word) : (s.setBc v).wram = s.wram := rfl

@[simp] theorem State.setBc_oam (s : State) (v : Word) : (s.setBc v).oam = s.oam := rfl

@[simp] theorem State.setBc_hram (s : State) (v : Word) : (s.setBc v).hram = s.hram := rfl

/-! ## `setDe` -/

@[simp] theorem State.setDe_cpu_a (s : State) (v : Word) :
    (s.setDe v).cpu.a = s.cpu.a := rfl

@[simp] theorem State.setDe_cpu_f (s : State) (v : Word) :
    (s.setDe v).cpu.f = s.cpu.f := rfl

@[simp] theorem State.setDe_cpu_b (s : State) (v : Word) :
    (s.setDe v).cpu.b = s.cpu.b := rfl

@[simp] theorem State.setDe_cpu_c (s : State) (v : Word) :
    (s.setDe v).cpu.c = s.cpu.c := rfl

@[simp] theorem State.setDe_cpu_d (s : State) (v : Word) :
    (s.setDe v).cpu.d = hi v := rfl

@[simp] theorem State.setDe_cpu_e (s : State) (v : Word) :
    (s.setDe v).cpu.e = lo v := rfl

@[simp] theorem State.setDe_cpu_h (s : State) (v : Word) :
    (s.setDe v).cpu.h = s.cpu.h := rfl

@[simp] theorem State.setDe_cpu_l (s : State) (v : Word) :
    (s.setDe v).cpu.l = s.cpu.l := rfl

@[simp] theorem State.setDe_cpu_sp (s : State) (v : Word) :
    (s.setDe v).cpu.sp = s.cpu.sp := rfl

@[simp] theorem State.setDe_cpu_pc (s : State) (v : Word) :
    (s.setDe v).cpu.pc = s.cpu.pc := rfl

@[simp] theorem State.setDe_cpu_ime (s : State) (v : Word) :
    (s.setDe v).cpu.ime = s.cpu.ime := rfl

@[simp] theorem State.setDe_cpu_eiPending (s : State) (v : Word) :
    (s.setDe v).cpu.eiPending = s.cpu.eiPending := rfl

@[simp] theorem State.setDe_cpu_halted (s : State) (v : Word) :
    (s.setDe v).cpu.halted = s.cpu.halted := rfl

@[simp] theorem State.setDe_cpu_stopped (s : State) (v : Word) :
    (s.setDe v).cpu.stopped = s.cpu.stopped := rfl

@[simp] theorem State.setDe_cpu_haltBug (s : State) (v : Word) :
    (s.setDe v).cpu.haltBug = s.cpu.haltBug := rfl

@[simp] theorem State.setDe_cpu_fault (s : State) (v : Word) :
    (s.setDe v).cpu.fault = s.cpu.fault := rfl

@[simp] theorem State.setDe_cpu_opAddr (s : State) (v : Word) :
    (s.setDe v).cpu.opAddr = s.cpu.opAddr := rfl

@[simp] theorem State.setDe_cpu_stepCost (s : State) (v : Word) :
    (s.setDe v).cpu.stepCost = s.cpu.stepCost := rfl

@[simp] theorem State.setDe_irq (s : State) (v : Word) : (s.setDe v).irq = s.irq := rfl

@[simp] theorem State.setDe_timer (s : State) (v : Word) : (s.setDe v).timer = s.timer := rfl

@[simp] theorem State.setDe_joypad (s : State) (v : Word) : (s.setDe v).joypad = s.joypad := rfl

@[simp] theorem State.setDe_serial (s : State) (v : Word) : (s.setDe v).serial = s.serial := rfl

@[simp] theorem State.setDe_ppu (s : State) (v : Word) : (s.setDe v).ppu = s.ppu := rfl

@[simp] theorem State.setDe_dma (s : State) (v : Word) : (s.setDe v).dma = s.dma := rfl

@[simp] theorem State.setDe_cart (s : State) (v : Word) : (s.setDe v).cart = s.cart := rfl

@[simp] theorem State.setDe_vram (s : State) (v : Word) : (s.setDe v).vram = s.vram := rfl

@[simp] theorem State.setDe_wram (s : State) (v : Word) : (s.setDe v).wram = s.wram := rfl

@[simp] theorem State.setDe_oam (s : State) (v : Word) : (s.setDe v).oam = s.oam := rfl

@[simp] theorem State.setDe_hram (s : State) (v : Word) : (s.setDe v).hram = s.hram := rfl

/-! ## `setHl` -/

@[simp] theorem State.setHl_cpu_a (s : State) (v : Word) :
    (s.setHl v).cpu.a = s.cpu.a := rfl

@[simp] theorem State.setHl_cpu_f (s : State) (v : Word) :
    (s.setHl v).cpu.f = s.cpu.f := rfl

@[simp] theorem State.setHl_cpu_b (s : State) (v : Word) :
    (s.setHl v).cpu.b = s.cpu.b := rfl

@[simp] theorem State.setHl_cpu_c (s : State) (v : Word) :
    (s.setHl v).cpu.c = s.cpu.c := rfl

@[simp] theorem State.setHl_cpu_d (s : State) (v : Word) :
    (s.setHl v).cpu.d = s.cpu.d := rfl

@[simp] theorem State.setHl_cpu_e (s : State) (v : Word) :
    (s.setHl v).cpu.e = s.cpu.e := rfl

@[simp] theorem State.setHl_cpu_h (s : State) (v : Word) :
    (s.setHl v).cpu.h = hi v := rfl

@[simp] theorem State.setHl_cpu_l (s : State) (v : Word) :
    (s.setHl v).cpu.l = lo v := rfl

@[simp] theorem State.setHl_cpu_sp (s : State) (v : Word) :
    (s.setHl v).cpu.sp = s.cpu.sp := rfl

@[simp] theorem State.setHl_cpu_pc (s : State) (v : Word) :
    (s.setHl v).cpu.pc = s.cpu.pc := rfl

@[simp] theorem State.setHl_cpu_ime (s : State) (v : Word) :
    (s.setHl v).cpu.ime = s.cpu.ime := rfl

@[simp] theorem State.setHl_cpu_eiPending (s : State) (v : Word) :
    (s.setHl v).cpu.eiPending = s.cpu.eiPending := rfl

@[simp] theorem State.setHl_cpu_halted (s : State) (v : Word) :
    (s.setHl v).cpu.halted = s.cpu.halted := rfl

@[simp] theorem State.setHl_cpu_stopped (s : State) (v : Word) :
    (s.setHl v).cpu.stopped = s.cpu.stopped := rfl

@[simp] theorem State.setHl_cpu_haltBug (s : State) (v : Word) :
    (s.setHl v).cpu.haltBug = s.cpu.haltBug := rfl

@[simp] theorem State.setHl_cpu_fault (s : State) (v : Word) :
    (s.setHl v).cpu.fault = s.cpu.fault := rfl

@[simp] theorem State.setHl_cpu_opAddr (s : State) (v : Word) :
    (s.setHl v).cpu.opAddr = s.cpu.opAddr := rfl

@[simp] theorem State.setHl_cpu_stepCost (s : State) (v : Word) :
    (s.setHl v).cpu.stepCost = s.cpu.stepCost := rfl

@[simp] theorem State.setHl_irq (s : State) (v : Word) : (s.setHl v).irq = s.irq := rfl

@[simp] theorem State.setHl_timer (s : State) (v : Word) : (s.setHl v).timer = s.timer := rfl

@[simp] theorem State.setHl_joypad (s : State) (v : Word) : (s.setHl v).joypad = s.joypad := rfl

@[simp] theorem State.setHl_serial (s : State) (v : Word) : (s.setHl v).serial = s.serial := rfl

@[simp] theorem State.setHl_ppu (s : State) (v : Word) : (s.setHl v).ppu = s.ppu := rfl

@[simp] theorem State.setHl_dma (s : State) (v : Word) : (s.setHl v).dma = s.dma := rfl

@[simp] theorem State.setHl_cart (s : State) (v : Word) : (s.setHl v).cart = s.cart := rfl

@[simp] theorem State.setHl_vram (s : State) (v : Word) : (s.setHl v).vram = s.vram := rfl

@[simp] theorem State.setHl_wram (s : State) (v : Word) : (s.setHl v).wram = s.wram := rfl

@[simp] theorem State.setHl_oam (s : State) (v : Word) : (s.setHl v).oam = s.oam := rfl

@[simp] theorem State.setHl_hram (s : State) (v : Word) : (s.setHl v).hram = s.hram := rfl

/-! ## `setSp` -/

@[simp] theorem State.setSp_cpu_a (s : State) (v : Word) :
    (s.setSp v).cpu.a = s.cpu.a := rfl

@[simp] theorem State.setSp_cpu_f (s : State) (v : Word) :
    (s.setSp v).cpu.f = s.cpu.f := rfl

@[simp] theorem State.setSp_cpu_b (s : State) (v : Word) :
    (s.setSp v).cpu.b = s.cpu.b := rfl

@[simp] theorem State.setSp_cpu_c (s : State) (v : Word) :
    (s.setSp v).cpu.c = s.cpu.c := rfl

@[simp] theorem State.setSp_cpu_d (s : State) (v : Word) :
    (s.setSp v).cpu.d = s.cpu.d := rfl

@[simp] theorem State.setSp_cpu_e (s : State) (v : Word) :
    (s.setSp v).cpu.e = s.cpu.e := rfl

@[simp] theorem State.setSp_cpu_h (s : State) (v : Word) :
    (s.setSp v).cpu.h = s.cpu.h := rfl

@[simp] theorem State.setSp_cpu_l (s : State) (v : Word) :
    (s.setSp v).cpu.l = s.cpu.l := rfl

@[simp] theorem State.setSp_cpu_sp (s : State) (v : Word) :
    (s.setSp v).cpu.sp = v := rfl

@[simp] theorem State.setSp_cpu_pc (s : State) (v : Word) :
    (s.setSp v).cpu.pc = s.cpu.pc := rfl

@[simp] theorem State.setSp_cpu_ime (s : State) (v : Word) :
    (s.setSp v).cpu.ime = s.cpu.ime := rfl

@[simp] theorem State.setSp_cpu_eiPending (s : State) (v : Word) :
    (s.setSp v).cpu.eiPending = s.cpu.eiPending := rfl

@[simp] theorem State.setSp_cpu_halted (s : State) (v : Word) :
    (s.setSp v).cpu.halted = s.cpu.halted := rfl

@[simp] theorem State.setSp_cpu_stopped (s : State) (v : Word) :
    (s.setSp v).cpu.stopped = s.cpu.stopped := rfl

@[simp] theorem State.setSp_cpu_haltBug (s : State) (v : Word) :
    (s.setSp v).cpu.haltBug = s.cpu.haltBug := rfl

@[simp] theorem State.setSp_cpu_fault (s : State) (v : Word) :
    (s.setSp v).cpu.fault = s.cpu.fault := rfl

@[simp] theorem State.setSp_cpu_opAddr (s : State) (v : Word) :
    (s.setSp v).cpu.opAddr = s.cpu.opAddr := rfl

@[simp] theorem State.setSp_cpu_stepCost (s : State) (v : Word) :
    (s.setSp v).cpu.stepCost = s.cpu.stepCost := rfl

@[simp] theorem State.setSp_irq (s : State) (v : Word) : (s.setSp v).irq = s.irq := rfl

@[simp] theorem State.setSp_timer (s : State) (v : Word) : (s.setSp v).timer = s.timer := rfl

@[simp] theorem State.setSp_joypad (s : State) (v : Word) : (s.setSp v).joypad = s.joypad := rfl

@[simp] theorem State.setSp_serial (s : State) (v : Word) : (s.setSp v).serial = s.serial := rfl

@[simp] theorem State.setSp_ppu (s : State) (v : Word) : (s.setSp v).ppu = s.ppu := rfl

@[simp] theorem State.setSp_dma (s : State) (v : Word) : (s.setSp v).dma = s.dma := rfl

@[simp] theorem State.setSp_cart (s : State) (v : Word) : (s.setSp v).cart = s.cart := rfl

@[simp] theorem State.setSp_vram (s : State) (v : Word) : (s.setSp v).vram = s.vram := rfl

@[simp] theorem State.setSp_wram (s : State) (v : Word) : (s.setSp v).wram = s.wram := rfl

@[simp] theorem State.setSp_oam (s : State) (v : Word) : (s.setSp v).oam = s.oam := rfl

@[simp] theorem State.setSp_hram (s : State) (v : Word) : (s.setSp v).hram = s.hram := rfl

/-! ## `setPc` -/

@[simp] theorem State.setPc_cpu_a (s : State) (v : Word) :
    (s.setPc v).cpu.a = s.cpu.a := rfl

@[simp] theorem State.setPc_cpu_f (s : State) (v : Word) :
    (s.setPc v).cpu.f = s.cpu.f := rfl

@[simp] theorem State.setPc_cpu_b (s : State) (v : Word) :
    (s.setPc v).cpu.b = s.cpu.b := rfl

@[simp] theorem State.setPc_cpu_c (s : State) (v : Word) :
    (s.setPc v).cpu.c = s.cpu.c := rfl

@[simp] theorem State.setPc_cpu_d (s : State) (v : Word) :
    (s.setPc v).cpu.d = s.cpu.d := rfl

@[simp] theorem State.setPc_cpu_e (s : State) (v : Word) :
    (s.setPc v).cpu.e = s.cpu.e := rfl

@[simp] theorem State.setPc_cpu_h (s : State) (v : Word) :
    (s.setPc v).cpu.h = s.cpu.h := rfl

@[simp] theorem State.setPc_cpu_l (s : State) (v : Word) :
    (s.setPc v).cpu.l = s.cpu.l := rfl

@[simp] theorem State.setPc_cpu_sp (s : State) (v : Word) :
    (s.setPc v).cpu.sp = s.cpu.sp := rfl

@[simp] theorem State.setPc_cpu_pc (s : State) (v : Word) :
    (s.setPc v).cpu.pc = v := rfl

@[simp] theorem State.setPc_cpu_ime (s : State) (v : Word) :
    (s.setPc v).cpu.ime = s.cpu.ime := rfl

@[simp] theorem State.setPc_cpu_eiPending (s : State) (v : Word) :
    (s.setPc v).cpu.eiPending = s.cpu.eiPending := rfl

@[simp] theorem State.setPc_cpu_halted (s : State) (v : Word) :
    (s.setPc v).cpu.halted = s.cpu.halted := rfl

@[simp] theorem State.setPc_cpu_stopped (s : State) (v : Word) :
    (s.setPc v).cpu.stopped = s.cpu.stopped := rfl

@[simp] theorem State.setPc_cpu_haltBug (s : State) (v : Word) :
    (s.setPc v).cpu.haltBug = s.cpu.haltBug := rfl

@[simp] theorem State.setPc_cpu_fault (s : State) (v : Word) :
    (s.setPc v).cpu.fault = s.cpu.fault := rfl

@[simp] theorem State.setPc_cpu_opAddr (s : State) (v : Word) :
    (s.setPc v).cpu.opAddr = s.cpu.opAddr := rfl

@[simp] theorem State.setPc_cpu_stepCost (s : State) (v : Word) :
    (s.setPc v).cpu.stepCost = s.cpu.stepCost := rfl

@[simp] theorem State.setPc_irq (s : State) (v : Word) : (s.setPc v).irq = s.irq := rfl

@[simp] theorem State.setPc_timer (s : State) (v : Word) : (s.setPc v).timer = s.timer := rfl

@[simp] theorem State.setPc_joypad (s : State) (v : Word) : (s.setPc v).joypad = s.joypad := rfl

@[simp] theorem State.setPc_serial (s : State) (v : Word) : (s.setPc v).serial = s.serial := rfl

@[simp] theorem State.setPc_ppu (s : State) (v : Word) : (s.setPc v).ppu = s.ppu := rfl

@[simp] theorem State.setPc_dma (s : State) (v : Word) : (s.setPc v).dma = s.dma := rfl

@[simp] theorem State.setPc_cart (s : State) (v : Word) : (s.setPc v).cart = s.cart := rfl

@[simp] theorem State.setPc_vram (s : State) (v : Word) : (s.setPc v).vram = s.vram := rfl

@[simp] theorem State.setPc_wram (s : State) (v : Word) : (s.setPc v).wram = s.wram := rfl

@[simp] theorem State.setPc_oam (s : State) (v : Word) : (s.setPc v).oam = s.oam := rfl

@[simp] theorem State.setPc_hram (s : State) (v : Word) : (s.setPc v).hram = s.hram := rfl

/-! ## `setA` -/

@[simp] theorem State.setA_cpu_a (s : State) (v : Byte) :
    (s.setA v).cpu.a = v := rfl

@[simp] theorem State.setA_cpu_f (s : State) (v : Byte) :
    (s.setA v).cpu.f = s.cpu.f := rfl

@[simp] theorem State.setA_cpu_b (s : State) (v : Byte) :
    (s.setA v).cpu.b = s.cpu.b := rfl

@[simp] theorem State.setA_cpu_c (s : State) (v : Byte) :
    (s.setA v).cpu.c = s.cpu.c := rfl

@[simp] theorem State.setA_cpu_d (s : State) (v : Byte) :
    (s.setA v).cpu.d = s.cpu.d := rfl

@[simp] theorem State.setA_cpu_e (s : State) (v : Byte) :
    (s.setA v).cpu.e = s.cpu.e := rfl

@[simp] theorem State.setA_cpu_h (s : State) (v : Byte) :
    (s.setA v).cpu.h = s.cpu.h := rfl

@[simp] theorem State.setA_cpu_l (s : State) (v : Byte) :
    (s.setA v).cpu.l = s.cpu.l := rfl

@[simp] theorem State.setA_cpu_sp (s : State) (v : Byte) :
    (s.setA v).cpu.sp = s.cpu.sp := rfl

@[simp] theorem State.setA_cpu_pc (s : State) (v : Byte) :
    (s.setA v).cpu.pc = s.cpu.pc := rfl

@[simp] theorem State.setA_cpu_ime (s : State) (v : Byte) :
    (s.setA v).cpu.ime = s.cpu.ime := rfl

@[simp] theorem State.setA_cpu_eiPending (s : State) (v : Byte) :
    (s.setA v).cpu.eiPending = s.cpu.eiPending := rfl

@[simp] theorem State.setA_cpu_halted (s : State) (v : Byte) :
    (s.setA v).cpu.halted = s.cpu.halted := rfl

@[simp] theorem State.setA_cpu_stopped (s : State) (v : Byte) :
    (s.setA v).cpu.stopped = s.cpu.stopped := rfl

@[simp] theorem State.setA_cpu_haltBug (s : State) (v : Byte) :
    (s.setA v).cpu.haltBug = s.cpu.haltBug := rfl

@[simp] theorem State.setA_cpu_fault (s : State) (v : Byte) :
    (s.setA v).cpu.fault = s.cpu.fault := rfl

@[simp] theorem State.setA_cpu_opAddr (s : State) (v : Byte) :
    (s.setA v).cpu.opAddr = s.cpu.opAddr := rfl

@[simp] theorem State.setA_cpu_stepCost (s : State) (v : Byte) :
    (s.setA v).cpu.stepCost = s.cpu.stepCost := rfl

@[simp] theorem State.setA_irq (s : State) (v : Byte) : (s.setA v).irq = s.irq := rfl

@[simp] theorem State.setA_timer (s : State) (v : Byte) : (s.setA v).timer = s.timer := rfl

@[simp] theorem State.setA_joypad (s : State) (v : Byte) : (s.setA v).joypad = s.joypad := rfl

@[simp] theorem State.setA_serial (s : State) (v : Byte) : (s.setA v).serial = s.serial := rfl

@[simp] theorem State.setA_ppu (s : State) (v : Byte) : (s.setA v).ppu = s.ppu := rfl

@[simp] theorem State.setA_dma (s : State) (v : Byte) : (s.setA v).dma = s.dma := rfl

@[simp] theorem State.setA_cart (s : State) (v : Byte) : (s.setA v).cart = s.cart := rfl

@[simp] theorem State.setA_vram (s : State) (v : Byte) : (s.setA v).vram = s.vram := rfl

@[simp] theorem State.setA_wram (s : State) (v : Byte) : (s.setA v).wram = s.wram := rfl

@[simp] theorem State.setA_oam (s : State) (v : Byte) : (s.setA v).oam = s.oam := rfl

@[simp] theorem State.setA_hram (s : State) (v : Byte) : (s.setA v).hram = s.hram := rfl

/-! ## `setF` -/

@[simp] theorem State.setF_cpu_a (s : State) (v : Byte) :
    (s.setF v).cpu.a = s.cpu.a := rfl

@[simp] theorem State.setF_cpu_f (s : State) (v : Byte) :
    (s.setF v).cpu.f = v &&& 0xF0#8 := rfl

@[simp] theorem State.setF_cpu_b (s : State) (v : Byte) :
    (s.setF v).cpu.b = s.cpu.b := rfl

@[simp] theorem State.setF_cpu_c (s : State) (v : Byte) :
    (s.setF v).cpu.c = s.cpu.c := rfl

@[simp] theorem State.setF_cpu_d (s : State) (v : Byte) :
    (s.setF v).cpu.d = s.cpu.d := rfl

@[simp] theorem State.setF_cpu_e (s : State) (v : Byte) :
    (s.setF v).cpu.e = s.cpu.e := rfl

@[simp] theorem State.setF_cpu_h (s : State) (v : Byte) :
    (s.setF v).cpu.h = s.cpu.h := rfl

@[simp] theorem State.setF_cpu_l (s : State) (v : Byte) :
    (s.setF v).cpu.l = s.cpu.l := rfl

@[simp] theorem State.setF_cpu_sp (s : State) (v : Byte) :
    (s.setF v).cpu.sp = s.cpu.sp := rfl

@[simp] theorem State.setF_cpu_pc (s : State) (v : Byte) :
    (s.setF v).cpu.pc = s.cpu.pc := rfl

@[simp] theorem State.setF_cpu_ime (s : State) (v : Byte) :
    (s.setF v).cpu.ime = s.cpu.ime := rfl

@[simp] theorem State.setF_cpu_eiPending (s : State) (v : Byte) :
    (s.setF v).cpu.eiPending = s.cpu.eiPending := rfl

@[simp] theorem State.setF_cpu_halted (s : State) (v : Byte) :
    (s.setF v).cpu.halted = s.cpu.halted := rfl

@[simp] theorem State.setF_cpu_stopped (s : State) (v : Byte) :
    (s.setF v).cpu.stopped = s.cpu.stopped := rfl

@[simp] theorem State.setF_cpu_haltBug (s : State) (v : Byte) :
    (s.setF v).cpu.haltBug = s.cpu.haltBug := rfl

@[simp] theorem State.setF_cpu_fault (s : State) (v : Byte) :
    (s.setF v).cpu.fault = s.cpu.fault := rfl

@[simp] theorem State.setF_cpu_opAddr (s : State) (v : Byte) :
    (s.setF v).cpu.opAddr = s.cpu.opAddr := rfl

@[simp] theorem State.setF_cpu_stepCost (s : State) (v : Byte) :
    (s.setF v).cpu.stepCost = s.cpu.stepCost := rfl

@[simp] theorem State.setF_irq (s : State) (v : Byte) : (s.setF v).irq = s.irq := rfl

@[simp] theorem State.setF_timer (s : State) (v : Byte) : (s.setF v).timer = s.timer := rfl

@[simp] theorem State.setF_joypad (s : State) (v : Byte) : (s.setF v).joypad = s.joypad := rfl

@[simp] theorem State.setF_serial (s : State) (v : Byte) : (s.setF v).serial = s.serial := rfl

@[simp] theorem State.setF_ppu (s : State) (v : Byte) : (s.setF v).ppu = s.ppu := rfl

@[simp] theorem State.setF_dma (s : State) (v : Byte) : (s.setF v).dma = s.dma := rfl

@[simp] theorem State.setF_cart (s : State) (v : Byte) : (s.setF v).cart = s.cart := rfl

@[simp] theorem State.setF_vram (s : State) (v : Byte) : (s.setF v).vram = s.vram := rfl

@[simp] theorem State.setF_wram (s : State) (v : Byte) : (s.setF v).wram = s.wram := rfl

@[simp] theorem State.setF_oam (s : State) (v : Byte) : (s.setF v).oam = s.oam := rfl

@[simp] theorem State.setF_hram (s : State) (v : Byte) : (s.setF v).hram = s.hram := rfl

/-! ## `charge` -/

@[simp] theorem State.charge_cpu_a (s : State) (t : Nat) :
    (s.charge t).cpu.a = s.cpu.a := rfl

@[simp] theorem State.charge_cpu_f (s : State) (t : Nat) :
    (s.charge t).cpu.f = s.cpu.f := rfl

@[simp] theorem State.charge_cpu_b (s : State) (t : Nat) :
    (s.charge t).cpu.b = s.cpu.b := rfl

@[simp] theorem State.charge_cpu_c (s : State) (t : Nat) :
    (s.charge t).cpu.c = s.cpu.c := rfl

@[simp] theorem State.charge_cpu_d (s : State) (t : Nat) :
    (s.charge t).cpu.d = s.cpu.d := rfl

@[simp] theorem State.charge_cpu_e (s : State) (t : Nat) :
    (s.charge t).cpu.e = s.cpu.e := rfl

@[simp] theorem State.charge_cpu_h (s : State) (t : Nat) :
    (s.charge t).cpu.h = s.cpu.h := rfl

@[simp] theorem State.charge_cpu_l (s : State) (t : Nat) :
    (s.charge t).cpu.l = s.cpu.l := rfl

@[simp] theorem State.charge_cpu_sp (s : State) (t : Nat) :
    (s.charge t).cpu.sp = s.cpu.sp := rfl

@[simp] theorem State.charge_cpu_pc (s : State) (t : Nat) :
    (s.charge t).cpu.pc = s.cpu.pc := rfl

@[simp] theorem State.charge_cpu_ime (s : State) (t : Nat) :
    (s.charge t).cpu.ime = s.cpu.ime := rfl

@[simp] theorem State.charge_cpu_eiPending (s : State) (t : Nat) :
    (s.charge t).cpu.eiPending = s.cpu.eiPending := rfl

@[simp] theorem State.charge_cpu_halted (s : State) (t : Nat) :
    (s.charge t).cpu.halted = s.cpu.halted := rfl

@[simp] theorem State.charge_cpu_stopped (s : State) (t : Nat) :
    (s.charge t).cpu.stopped = s.cpu.stopped := rfl

@[simp] theorem State.charge_cpu_haltBug (s : State) (t : Nat) :
    (s.charge t).cpu.haltBug = s.cpu.haltBug := rfl

@[simp] theorem State.charge_cpu_fault (s : State) (t : Nat) :
    (s.charge t).cpu.fault = s.cpu.fault := rfl

@[simp] theorem State.charge_cpu_opAddr (s : State) (t : Nat) :
    (s.charge t).cpu.opAddr = s.cpu.opAddr := rfl

@[simp] theorem State.charge_cpu_stepCost (s : State) (t : Nat) :
    (s.charge t).cpu.stepCost = t := rfl

@[simp] theorem State.charge_irq (s : State) (t : Nat) : (s.charge t).irq = s.irq := rfl

@[simp] theorem State.charge_timer (s : State) (t : Nat) : (s.charge t).timer = s.timer := rfl

@[simp] theorem State.charge_joypad (s : State) (t : Nat) : (s.charge t).joypad = s.joypad := rfl

@[simp] theorem State.charge_serial (s : State) (t : Nat) : (s.charge t).serial = s.serial := rfl

@[simp] theorem State.charge_ppu (s : State) (t : Nat) : (s.charge t).ppu = s.ppu := rfl

@[simp] theorem State.charge_dma (s : State) (t : Nat) : (s.charge t).dma = s.dma := rfl

@[simp] theorem State.charge_cart (s : State) (t : Nat) : (s.charge t).cart = s.cart := rfl

@[simp] theorem State.charge_vram (s : State) (t : Nat) : (s.charge t).vram = s.vram := rfl

@[simp] theorem State.charge_wram (s : State) (t : Nat) : (s.charge t).wram = s.wram := rfl

@[simp] theorem State.charge_oam (s : State) (t : Nat) : (s.charge t).oam = s.oam := rfl

@[simp] theorem State.charge_hram (s : State) (t : Nat) : (s.charge t).hram = s.hram := rfl

/-! ## `setFlags` -/

@[simp] theorem State.setFlags_cpu_a (s : State) (z n h c : Bool) :
    (s.setFlags z n h c).cpu.a = s.cpu.a := rfl

@[simp] theorem State.setFlags_cpu_f (s : State) (z n h c : Bool) :
    (s.setFlags z n h c).cpu.f = packFlags s.cpu.f z n h c := rfl

@[simp] theorem State.setFlags_cpu_b (s : State) (z n h c : Bool) :
    (s.setFlags z n h c).cpu.b = s.cpu.b := rfl

@[simp] theorem State.setFlags_cpu_c (s : State) (z n h c : Bool) :
    (s.setFlags z n h c).cpu.c = s.cpu.c := rfl

@[simp] theorem State.setFlags_cpu_d (s : State) (z n h c : Bool) :
    (s.setFlags z n h c).cpu.d = s.cpu.d := rfl

@[simp] theorem State.setFlags_cpu_e (s : State) (z n h c : Bool) :
    (s.setFlags z n h c).cpu.e = s.cpu.e := rfl

@[simp] theorem State.setFlags_cpu_h (s : State) (z n h c : Bool) :
    (s.setFlags z n h c).cpu.h = s.cpu.h := rfl

@[simp] theorem State.setFlags_cpu_l (s : State) (z n h c : Bool) :
    (s.setFlags z n h c).cpu.l = s.cpu.l := rfl

@[simp] theorem State.setFlags_cpu_sp (s : State) (z n h c : Bool) :
    (s.setFlags z n h c).cpu.sp = s.cpu.sp := rfl

@[simp] theorem State.setFlags_cpu_pc (s : State) (z n h c : Bool) :
    (s.setFlags z n h c).cpu.pc = s.cpu.pc := rfl

@[simp] theorem State.setFlags_cpu_ime (s : State) (z n h c : Bool) :
    (s.setFlags z n h c).cpu.ime = s.cpu.ime := rfl

@[simp] theorem State.setFlags_cpu_eiPending (s : State) (z n h c : Bool) :
    (s.setFlags z n h c).cpu.eiPending = s.cpu.eiPending := rfl

@[simp] theorem State.setFlags_cpu_halted (s : State) (z n h c : Bool) :
    (s.setFlags z n h c).cpu.halted = s.cpu.halted := rfl

@[simp] theorem State.setFlags_cpu_stopped (s : State) (z n h c : Bool) :
    (s.setFlags z n h c).cpu.stopped = s.cpu.stopped := rfl

@[simp] theorem State.setFlags_cpu_haltBug (s : State) (z n h c : Bool) :
    (s.setFlags z n h c).cpu.haltBug = s.cpu.haltBug := rfl

@[simp] theorem State.setFlags_cpu_fault (s : State) (z n h c : Bool) :
    (s.setFlags z n h c).cpu.fault = s.cpu.fault := rfl

@[simp] theorem State.setFlags_cpu_opAddr (s : State) (z n h c : Bool) :
    (s.setFlags z n h c).cpu.opAddr = s.cpu.opAddr := rfl

@[simp] theorem State.setFlags_cpu_stepCost (s : State) (z n h c : Bool) :
    (s.setFlags z n h c).cpu.stepCost = s.cpu.stepCost := rfl

@[simp] theorem State.setFlags_irq (s : State) (z n h c : Bool) : (s.setFlags z n h c).irq = s.irq := rfl

@[simp] theorem State.setFlags_timer (s : State) (z n h c : Bool) : (s.setFlags z n h c).timer = s.timer := rfl

@[simp] theorem State.setFlags_joypad (s : State) (z n h c : Bool) : (s.setFlags z n h c).joypad = s.joypad := rfl

@[simp] theorem State.setFlags_serial (s : State) (z n h c : Bool) : (s.setFlags z n h c).serial = s.serial := rfl

@[simp] theorem State.setFlags_ppu (s : State) (z n h c : Bool) : (s.setFlags z n h c).ppu = s.ppu := rfl

@[simp] theorem State.setFlags_dma (s : State) (z n h c : Bool) : (s.setFlags z n h c).dma = s.dma := rfl

@[simp] theorem State.setFlags_cart (s : State) (z n h c : Bool) : (s.setFlags z n h c).cart = s.cart := rfl

@[simp] theorem State.setFlags_vram (s : State) (z n h c : Bool) : (s.setFlags z n h c).vram = s.vram := rfl

@[simp] theorem State.setFlags_wram (s : State) (z n h c : Bool) : (s.setFlags z n h c).wram = s.wram := rfl

@[simp] theorem State.setFlags_oam (s : State) (z n h c : Bool) : (s.setFlags z n h c).oam = s.oam := rfl

@[simp] theorem State.setFlags_hram (s : State) (z n h c : Bool) : (s.setFlags z n h c).hram = s.hram := rfl

/-! ## `setReg8` -/

@[simp] theorem State.setReg8_cpu_f (s : State) (r : Reg8) (v : Byte) :
    (s.setReg8 r v).cpu.f = s.cpu.f := by cases r <;> rfl

@[simp] theorem State.setReg8_cpu_sp (s : State) (r : Reg8) (v : Byte) :
    (s.setReg8 r v).cpu.sp = s.cpu.sp := by cases r <;> rfl

@[simp] theorem State.setReg8_cpu_pc (s : State) (r : Reg8) (v : Byte) :
    (s.setReg8 r v).cpu.pc = s.cpu.pc := by cases r <;> rfl

@[simp] theorem State.setReg8_cpu_ime (s : State) (r : Reg8) (v : Byte) :
    (s.setReg8 r v).cpu.ime = s.cpu.ime := by cases r <;> rfl

@[simp] theorem State.setReg8_cpu_eiPending (s : State) (r : Reg8) (v : Byte) :
    (s.setReg8 r v).cpu.eiPending = s.cpu.eiPending := by cases r <;> rfl

@[simp] theorem State.setReg8_cpu_halted (s : State) (r : Reg8) (v : Byte) :
    (s.setReg8 r v).cpu.halted = s.cpu.halted := by cases r <;> rfl

@[simp] theorem State.setReg8_cpu_stopped (s : State) (r : Reg8) (v : Byte) :
    (s.setReg8 r v).cpu.stopped = s.cpu.stopped := by cases r <;> rfl

@[simp] theorem State.setReg8_cpu_haltBug (s : State) (r : Reg8) (v : Byte) :
    (s.setReg8 r v).cpu.haltBug = s.cpu.haltBug := by cases r <;> rfl

@[simp] theorem State.setReg8_cpu_fault (s : State) (r : Reg8) (v : Byte) :
    (s.setReg8 r v).cpu.fault = s.cpu.fault := by cases r <;> rfl

@[simp] theorem State.setReg8_cpu_opAddr (s : State) (r : Reg8) (v : Byte) :
    (s.setReg8 r v).cpu.opAddr = s.cpu.opAddr := by cases r <;> rfl

@[simp] theorem State.setReg8_cpu_stepCost (s : State) (r : Reg8) (v : Byte) :
    (s.setReg8 r v).cpu.stepCost = s.cpu.stepCost := by cases r <;> rfl

@[simp] theorem State.setReg8_irq (s : State) (r : Reg8) (v : Byte) :
    (s.setReg8 r v).irq = s.irq := by cases r <;> rfl

@[simp] theorem State.setReg8_timer (s : State) (r : Reg8) (v : Byte) :
    (s.setReg8 r v).timer = s.timer := by cases r <;> rfl

@[simp] theorem State.setReg8_joypad (s : State) (r : Reg8) (v : Byte) :
    (s.setReg8 r v).joypad = s.joypad := by cases r <;> rfl

@[simp] theorem State.setReg8_serial (s : State) (r : Reg8) (v : Byte) :
    (s.setReg8 r v).serial = s.serial := by cases r <;> rfl

@[simp] theorem State.setReg8_ppu (s : State) (r : Reg8) (v : Byte) :
    (s.setReg8 r v).ppu = s.ppu := by cases r <;> rfl

@[simp] theorem State.setReg8_dma (s : State) (r : Reg8) (v : Byte) :
    (s.setReg8 r v).dma = s.dma := by cases r <;> rfl

@[simp] theorem State.setReg8_cart (s : State) (r : Reg8) (v : Byte) :
    (s.setReg8 r v).cart = s.cart := by cases r <;> rfl

@[simp] theorem State.setReg8_vram (s : State) (r : Reg8) (v : Byte) :
    (s.setReg8 r v).vram = s.vram := by cases r <;> rfl

@[simp] theorem State.setReg8_wram (s : State) (r : Reg8) (v : Byte) :
    (s.setReg8 r v).wram = s.wram := by cases r <;> rfl

@[simp] theorem State.setReg8_oam (s : State) (r : Reg8) (v : Byte) :
    (s.setReg8 r v).oam = s.oam := by cases r <;> rfl

@[simp] theorem State.setReg8_hram (s : State) (r : Reg8) (v : Byte) :
    (s.setReg8 r v).hram = s.hram := by cases r <;> rfl

theorem State.reg8_setReg8 (s : State) (r q : Reg8) (v : Byte) :
    (s.setReg8 r v).reg8 q = if q = r then v else s.reg8 q := by
  cases r <;> cases q <;> rfl

@[simp] theorem State.reg8_setReg8_same (s : State) (r : Reg8) (v : Byte) :
    (s.setReg8 r v).reg8 r = v := by simp [State.reg8_setReg8]

/-- Writing a register with what it holds changes nothing. -/
@[simp] theorem State.setReg8_reg8 (s : State) (r : Reg8) : s.setReg8 r (s.reg8 r) = s := by
  cases r <;> rfl

/-- The second write of two to one register is the one that stays. -/
@[simp] theorem State.setReg8_setReg8 (s : State) (r : Reg8) (v w : Byte) :
    (s.setReg8 r v).setReg8 r w = s.setReg8 r w := by
  cases r <;> rfl

/-! ## Requests and what is latched with them -/

@[simp] theorem State.request_cpu (s : State) (n : Nat) : (s.request n).cpu = s.cpu := rfl

@[simp] theorem State.request_timer (s : State) (n : Nat) : (s.request n).timer = s.timer := rfl

@[simp] theorem State.request_joypad (s : State) (n : Nat) : (s.request n).joypad = s.joypad := rfl

@[simp] theorem State.request_serial (s : State) (n : Nat) : (s.request n).serial = s.serial := rfl

@[simp] theorem State.request_ppu (s : State) (n : Nat) : (s.request n).ppu = s.ppu := rfl

@[simp] theorem State.request_dma (s : State) (n : Nat) : (s.request n).dma = s.dma := rfl

@[simp] theorem State.request_cart (s : State) (n : Nat) : (s.request n).cart = s.cart := rfl

@[simp] theorem State.request_vram (s : State) (n : Nat) : (s.request n).vram = s.vram := rfl

@[simp] theorem State.request_wram (s : State) (n : Nat) : (s.request n).wram = s.wram := rfl

@[simp] theorem State.request_oam (s : State) (n : Nat) : (s.request n).oam = s.oam := rfl

@[simp] theorem State.request_hram (s : State) (n : Nat) : (s.request n).hram = s.hram := rfl

@[simp] theorem State.requestIf_cpu (s : State) (b : Bool) (n : Nat) : (s.requestIf b n).cpu = s.cpu := by
  cases b <;> rfl

@[simp] theorem State.requestIf_timer (s : State) (b : Bool) (n : Nat) : (s.requestIf b n).timer = s.timer := by
  cases b <;> rfl

@[simp] theorem State.requestIf_joypad (s : State) (b : Bool) (n : Nat) : (s.requestIf b n).joypad = s.joypad := by
  cases b <;> rfl

@[simp] theorem State.requestIf_serial (s : State) (b : Bool) (n : Nat) : (s.requestIf b n).serial = s.serial := by
  cases b <;> rfl

@[simp] theorem State.requestIf_ppu (s : State) (b : Bool) (n : Nat) : (s.requestIf b n).ppu = s.ppu := by
  cases b <;> rfl

@[simp] theorem State.requestIf_dma (s : State) (b : Bool) (n : Nat) : (s.requestIf b n).dma = s.dma := by
  cases b <;> rfl

@[simp] theorem State.requestIf_cart (s : State) (b : Bool) (n : Nat) : (s.requestIf b n).cart = s.cart := by
  cases b <;> rfl

@[simp] theorem State.requestIf_vram (s : State) (b : Bool) (n : Nat) : (s.requestIf b n).vram = s.vram := by
  cases b <;> rfl

@[simp] theorem State.requestIf_wram (s : State) (b : Bool) (n : Nat) : (s.requestIf b n).wram = s.wram := by
  cases b <;> rfl

@[simp] theorem State.requestIf_oam (s : State) (b : Bool) (n : Nat) : (s.requestIf b n).oam = s.oam := by
  cases b <;> rfl

@[simp] theorem State.requestIf_hram (s : State) (b : Bool) (n : Nat) : (s.requestIf b n).hram = s.hram := by
  cases b <;> rfl

@[simp] theorem State.updateStat_cpu (s : State) : (s.updateStat).cpu = s.cpu := by
  simp [State.updateStat]

@[simp] theorem State.updateStat_timer (s : State) : (s.updateStat).timer = s.timer := by
  simp [State.updateStat]

@[simp] theorem State.updateStat_joypad (s : State) : (s.updateStat).joypad = s.joypad := by
  simp [State.updateStat]

@[simp] theorem State.updateStat_serial (s : State) : (s.updateStat).serial = s.serial := by
  simp [State.updateStat]

@[simp] theorem State.updateStat_dma (s : State) : (s.updateStat).dma = s.dma := by
  simp [State.updateStat]

@[simp] theorem State.updateStat_cart (s : State) : (s.updateStat).cart = s.cart := by
  simp [State.updateStat]

@[simp] theorem State.updateStat_vram (s : State) : (s.updateStat).vram = s.vram := by
  simp [State.updateStat]

@[simp] theorem State.updateStat_wram (s : State) : (s.updateStat).wram = s.wram := by
  simp [State.updateStat]

@[simp] theorem State.updateStat_oam (s : State) : (s.updateStat).oam = s.oam := by
  simp [State.updateStat]

@[simp] theorem State.updateStat_hram (s : State) : (s.updateStat).hram = s.hram := by
  simp [State.updateStat]

@[simp] theorem State.updateStat_ppu (s : State) : s.updateStat.ppu = s.ppu.latchStat := by
  simp [State.updateStat]

@[simp] theorem State.request_ie (s : State) (n : Nat) : (s.request n).irq.ie = s.irq.ie := rfl

@[simp] theorem State.requestIf_ie (s : State) (b : Bool) (n : Nat) :
    (s.requestIf b n).irq.ie = s.irq.ie := by cases b <;> rfl

@[simp] theorem State.updateStat_ie (s : State) : s.updateStat.irq.ie = s.irq.ie := by
  simp [State.updateStat]

@[simp] theorem State.request_ifl (s : State) (n : Nat) :
    (s.request n).irq.ifl = s.irq.ifl ||| (1#5 <<< n) := rfl

theorem State.requestIf_ifl (s : State) (b : Bool) (n : Nat) :
    (s.requestIf b n).irq.ifl = if b then s.irq.ifl ||| (1#5 <<< n) else s.irq.ifl := by
  cases b <;> rfl

@[simp] theorem State.joypadEvent_cpu (s : State) (j : Joypad) : (s.joypadEvent j).cpu = s.cpu := by
  simp [State.joypadEvent]

@[simp] theorem State.joypadEvent_timer (s : State) (j : Joypad) : (s.joypadEvent j).timer = s.timer := by
  simp [State.joypadEvent]

@[simp] theorem State.joypadEvent_serial (s : State) (j : Joypad) : (s.joypadEvent j).serial = s.serial := by
  simp [State.joypadEvent]

@[simp] theorem State.joypadEvent_ppu (s : State) (j : Joypad) : (s.joypadEvent j).ppu = s.ppu := by
  simp [State.joypadEvent]

@[simp] theorem State.joypadEvent_dma (s : State) (j : Joypad) : (s.joypadEvent j).dma = s.dma := by
  simp [State.joypadEvent]

@[simp] theorem State.joypadEvent_cart (s : State) (j : Joypad) : (s.joypadEvent j).cart = s.cart := by
  simp [State.joypadEvent]

@[simp] theorem State.joypadEvent_vram (s : State) (j : Joypad) : (s.joypadEvent j).vram = s.vram := by
  simp [State.joypadEvent]

@[simp] theorem State.joypadEvent_wram (s : State) (j : Joypad) : (s.joypadEvent j).wram = s.wram := by
  simp [State.joypadEvent]

@[simp] theorem State.joypadEvent_oam (s : State) (j : Joypad) : (s.joypadEvent j).oam = s.oam := by
  simp [State.joypadEvent]

@[simp] theorem State.joypadEvent_hram (s : State) (j : Joypad) : (s.joypadEvent j).hram = s.hram := by
  simp [State.joypadEvent]

@[simp] theorem State.joypadEvent_joypad (s : State) (j : Joypad) : (s.joypadEvent j).joypad = j := by
  simp [State.joypadEvent]

@[simp] theorem State.joypadEvent_ie (s : State) (j : Joypad) :
    (s.joypadEvent j).irq.ie = s.irq.ie := by simp [State.joypadEvent]

@[simp] theorem State.startDma_cpu (s : State) (v : Byte) : (s.startDma v).cpu = s.cpu := rfl

@[simp] theorem State.startDma_irq (s : State) (v : Byte) : (s.startDma v).irq = s.irq := rfl

@[simp] theorem State.startDma_timer (s : State) (v : Byte) : (s.startDma v).timer = s.timer := rfl

@[simp] theorem State.startDma_joypad (s : State) (v : Byte) : (s.startDma v).joypad = s.joypad := rfl

@[simp] theorem State.startDma_serial (s : State) (v : Byte) : (s.startDma v).serial = s.serial := rfl

@[simp] theorem State.startDma_ppu (s : State) (v : Byte) : (s.startDma v).ppu = s.ppu := rfl

@[simp] theorem State.startDma_cart (s : State) (v : Byte) : (s.startDma v).cart = s.cart := rfl

@[simp] theorem State.startDma_vram (s : State) (v : Byte) : (s.startDma v).vram = s.vram := rfl

@[simp] theorem State.startDma_wram (s : State) (v : Byte) : (s.startDma v).wram = s.wram := rfl

@[simp] theorem State.startDma_oam (s : State) (v : Byte) : (s.startDma v).oam = s.oam := rfl

@[simp] theorem State.startDma_hram (s : State) (v : Byte) : (s.startDma v).hram = s.hram := rfl

@[simp] theorem State.startDma_dma (s : State) (v : Byte) :
    (s.startDma v).dma = { reg := v, active := true, src := v, t := 0 } := rfl

end Sys2Proof.Machine
end

