-- ==== Sys2Proof/Laws/Bus.lean ====
section
/-! SUPPORT. The CPU bus: what the decoder answers, what a write can do, and what a read after a write
of a memory cell gives. -/

namespace Sys2Proof.Machine

/-! ## The decoder -/

/-- The address range and the offset of each answer of the decoder, for the address `n`. -/
def Region.OfAddr (n : Nat) : Region → Prop
  | .cartRom x => x < 0x8000 ∧ n = x
  | .vram off => off < 0x2000 ∧ n = 0x8000 + off
  | .cartRam off => off < 0x2000 ∧ n = 0xA000 + off
  | .wram off => off < 0x2000 ∧ (n = 0xC000 + off ∨ off < 0x1E00 ∧ n = 0xE000 + off)
  | .oam off => off < 160 ∧ n = 0xFE00 + off
  | .unusable => 0xFEA0 ≤ n ∧ n < 0xFF00
  | .io r => 0xFF00 ≤ n ∧ n < 0xFF80 ∧ r = ioReg? n
  | .hram off => off < 127 ∧ n = 0xFF80 + off
  | .ie => n = 0xFFFF

theorem decodeAddr_spec (a : Word) : (decodeAddr a).OfAddr a.toNat := by
  have ha := a.isLt
  unfold decodeAddr
  generalize a.toNat = n at ha ⊢
  dsimp only
  split_ifs <;> dsimp only [Region.OfAddr] <;> first | omega | exact ⟨by omega, by omega, rfl⟩

/-- An external RAM offset lies inside the array. -/
theorem Cart.ramOffset?_lt {c : Cart} {off k : Nat} (h : c.ramOffset? off = some k) : k < c.ramSize := by
  unfold Cart.ramOffset? at h
  split at h
  · simp at h
  · rw [Option.map_eq_some_iff] at h
    obtain ⟨_, _, rfl⟩ := h
    exact Nat.mod_lt _ (by omega)

/-! ## What a write can do -/

/-- Everything a bus write can do to a state. -/
theorem State.busWrite_ind {P : State → Prop} (s : State) (a : Word) (v : Byte) (same : P s)
    (mbc : ∀ x, x < 0x8000 → P { s with cart.mbc := s.cart.mbc.write x v })
    (vram : ∀ off, off < 0x2000 → P { s with vram := s.vram.write off v })
    (eram : ∀ k, k < s.cart.ramSize → P { s with cart.eram := s.cart.eram.write k v })
    (wram : ∀ off, off < 0x2000 → P { s with wram := s.wram.write off v })
    (oam : ∀ off, off < 160 → P { s with oam := s.oam.write off v })
    (hram : ∀ off, off < 127 → P { s with hram := s.hram.write off v })
    (io : ∀ r, P (s.writeIo r v)) (ie : P { s with irq.ie := v }) : P (s.busWrite a v) := by
  have h := decodeAddr_spec a
  unfold State.busWrite
  split <;> rename_i hd <;> rw [hd] at h <;> simp only [Region.OfAddr] at h
  · exact mbc _ h.1
  · exact vram _ h.1
  · split
    · rename_i k hk
      exact eram k (Cart.ramOffset?_lt hk)
    · exact same
  · exact wram _ h.1
  · exact oam _ h.1
  · exact same
  · exact io _
  · exact same
  · exact hram _ h.1
  · exact ie

/-- Everything a CPU write can do: nothing while the DMA blocks it, else a bus write. -/
theorem State.memWrite_ind {P : State → Prop} (s : State) (a : Word) (v : Byte) (same : P s)
    (bus : P (s.busWrite a v)) : P (s.memWrite a v) := by
  unfold State.memWrite
  split
  · exact same
  · exact bus

@[simp] theorem State.writeIo_cpu (s : State) (r : IoReg) (v : Byte) : (s.writeIo r v).cpu = s.cpu := by
  cases r <;> simp [State.writeIo]

@[simp] theorem State.writeIo_cart (s : State) (r : IoReg) (v : Byte) :
    (s.writeIo r v).cart = s.cart := by cases r <;> simp [State.writeIo]

@[simp] theorem State.writeIo_vram (s : State) (r : IoReg) (v : Byte) :
    (s.writeIo r v).vram = s.vram := by cases r <;> simp [State.writeIo]

@[simp] theorem State.writeIo_wram (s : State) (r : IoReg) (v : Byte) :
    (s.writeIo r v).wram = s.wram := by cases r <;> simp [State.writeIo]

@[simp] theorem State.writeIo_oam (s : State) (r : IoReg) (v : Byte) :
    (s.writeIo r v).oam = s.oam := by cases r <;> simp [State.writeIo]

@[simp] theorem State.writeIo_hram (s : State) (r : IoReg) (v : Byte) :
    (s.writeIo r v).hram = s.hram := by cases r <;> simp [State.writeIo]

/-- A bus write never reaches the CPU. -/
@[simp] theorem State.memWrite_cpu (s : State) (a : Word) (v : Byte) : (s.memWrite a v).cpu = s.cpu := by
  apply State.memWrite_ind (P := fun t => t.cpu = s.cpu) _ _ _ rfl
  apply State.busWrite_ind (P := fun t => t.cpu = s.cpu) <;> simp

/-- A bus write changes no ROM byte and no size. -/
theorem State.memWrite_cart (s : State) (a : Word) (v : Byte) :
    (s.memWrite a v).cart.rom = s.cart.rom ∧ (s.memWrite a v).cart.romBanks = s.cart.romBanks ∧
      (s.memWrite a v).cart.ramSize = s.cart.ramSize ∧
      (s.memWrite a v).cart.battery = s.cart.battery := by
  apply State.memWrite_ind (P := fun t => t.cart.rom = s.cart.rom ∧
    t.cart.romBanks = s.cart.romBanks ∧ t.cart.ramSize = s.cart.ramSize ∧
    t.cart.battery = s.cart.battery) _ _ _ (by simp)
  apply State.busWrite_ind (P := fun t => t.cart.rom = s.cart.rom ∧
    t.cart.romBanks = s.cart.romBanks ∧ t.cart.ramSize = s.cart.ramSize ∧
    t.cart.battery = s.cart.battery) <;> simp

@[simp] theorem State.memWrite16_cpu (s : State) (a v : Word) : (s.memWrite16 a v).cpu = s.cpu := by
  simp [State.memWrite16]

@[simp] theorem State.pushByte_cpu (s : State) (v : Byte) :
    (s.pushByte v).cpu = { s.cpu with sp := s.cpu.sp - 1#16 } := by
  simp [State.pushByte, State.setSp]

/-- A push moves SP down by two and no other register. -/
@[simp] theorem State.push16_cpu (s : State) (v : Word) :
    (s.push16 v).cpu = { s.cpu with sp := s.cpu.sp - 2#16 } := by
  simp only [State.push16, State.pushByte_cpu, BitVec.sub_sub]
  rfl

/-! ## A register write does not see the CPU -/

/-- A change of the CPU's fields and a bus write commute. -/
theorem State.memWrite_withCpu (s : State) (c : Cpu) (a : Word) (v : Byte) :
    ({ s with cpu := c } : State).memWrite a v = { s.memWrite a v with cpu := c } := by
  have hio : ∀ r, ({ s with cpu := c } : State).writeIo r v = { s.writeIo r v with cpu := c } := by
    intro r
    cases r <;> simp [State.writeIo, State.joypadEvent, State.updateStat, State.requestIf,
      State.request, State.startDma] <;> split <;> rfl
  have hb : ({ s with cpu := c } : State).blocked a = s.blocked a := rfl
  unfold State.memWrite
  rw [hb]
  split
  · rfl
  · unfold State.busWrite
    split <;> first | rfl | exact hio _ | (dsimp only; split <;> rfl)

/-- A read does not see the CPU. -/
@[simp] theorem State.memRead_withCpu (s : State) (c : Cpu) (a : Word) :
    ({ s with cpu := c } : State).memRead a = s.memRead a := by
  have hb : ({ s with cpu := c } : State).blocked a = s.blocked a := rfl
  have hr : ({ s with cpu := c } : State).busRead a = s.busRead a := by
    unfold State.busRead
    split <;> rfl
  unfold State.memRead
  rw [hb, hr]

/-- A push is its two stores and SP's move. -/
theorem State.push16_eq (s : State) (w : Word) :
    s.push16 w = { s.pushed w with cpu := { s.cpu with sp := s.cpu.sp - 2#16 } } := by
  have h : s.cpu.sp - 1#16 - 1#16 = s.cpu.sp - 2#16 := by rw [BitVec.sub_sub]; rfl
  simp only [State.push16, State.pushByte, State.setSp, State.memWrite_withCpu, State.pushed, h]

/-- What a pop returns, in the statements' words. -/
theorem State.top16_eq (s : State) : s.top16 = s.popped := rfl

/-! ## Memory cells -/

theorem State.readCell_writeCell (s : State) (c d : MemCell) (v : Byte) :
    (s.writeCell c v).readCell d = if d = c then v else s.readCell d := by
  cases c <;> cases d <;> simp [State.writeCell, State.readCell, Cells.read_write]

/-- A read of an address with a cell reads the cell. -/
theorem State.busRead_cell {s : State} {a : Word} {c : MemCell} (h : s.cell? a = some c) :
    s.busRead a = s.readCell c := by
  unfold State.cell? at h
  unfold State.busRead
  cases hd : decodeAddr a <;> rw [hd] at h <;> simp at h
  case cartRam off =>
    obtain ⟨k, hk, rfl⟩ := h
    simp [hk, State.readCell]
  all_goals subst h; rfl

/-- A write of an address with a cell writes the cell. -/
theorem State.busWrite_cell {s : State} {a : Word} {c : MemCell} (h : s.cell? a = some c) (v : Byte) :
    s.busWrite a v = s.writeCell c v := by
  unfold State.cell? at h
  unfold State.busWrite
  cases hd : decodeAddr a <;> rw [hd] at h <;> simp at h
  case cartRam off =>
    obtain ⟨k, hk, rfl⟩ := h
    simp [hk, State.writeCell]
  all_goals subst h; rfl

@[simp] theorem State.writeCell_dma (s : State) (c : MemCell) (v : Byte) :
    (s.writeCell c v).dma = s.dma := by cases c <;> rfl

@[simp] theorem State.writeCell_cpu (s : State) (c : MemCell) (v : Byte) :
    (s.writeCell c v).cpu = s.cpu := by cases c <;> rfl

@[simp] theorem State.writeCell_blocked (s : State) (c : MemCell) (v : Byte) (a : Word) :
    (s.writeCell c v).blocked a = s.blocked a := by cases c <;> rfl

theorem State.writeCell_ramOffset? (s : State) (c : MemCell) (v : Byte) (off : Nat) :
    (s.writeCell c v).cart.ramOffset? off = s.cart.ramOffset? off := by cases c <;> rfl

@[simp] theorem State.writeCell_cell? (s : State) (c : MemCell) (v : Byte) (a : Word) :
    (s.writeCell c v).cell? a = s.cell? a := by
  unfold State.cell?
  split <;> simp [State.writeCell_ramOffset?]

/-- Writing one cell leaves what is read at every address that is not that cell. -/
theorem State.busRead_writeCell_other {s : State} {c : MemCell} {b : Word} (v : Byte)
    (h : s.cell? b ≠ some c) : (s.writeCell c v).busRead b = s.busRead b := by
  cases hc : s.cell? b with
  | some d =>
    rw [State.busRead_cell hc, State.busRead_cell (s := s.writeCell c v) (by simpa using hc),
      State.readCell_writeCell, if_neg (by rintro rfl; exact h hc)]
  | none =>
    have hio : ∀ r, (s.writeCell c v).readIo r = s.readIo r := by intro r; cases c <;> cases r <;> rfl
    unfold State.cell? at hc
    unfold State.busRead
    cases hd : decodeAddr b <;> rw [hd] at hc <;> simp at hc
    case cartRom x => cases c <;> rfl
    case cartRam off => simp [State.writeCell_ramOffset?, hc]
    case io r => cases r <;> simp [hio]
    case ie => cases c <;> rfl

/-- A CPU store to a memory cell, unless the DMA blocks it, is a write of the cell. -/
theorem State.memWrite_cell {s : State} {a : Word} {c : MemCell} (h : s.cell? a = some c)
    (hb : s.blocked a = false) (v : Byte) : s.memWrite a v = s.writeCell c v := by
  rw [State.memWrite, hb]
  exact State.busWrite_cell h v

/-- The byte just stored to a memory cell is what is read there. -/
theorem State.memRead_memWrite_same {s : State} {a : Word} {c : MemCell} (h : s.cell? a = some c)
    (hb : s.blocked a = false) (v : Byte) : (s.memWrite a v).memRead a = v := by
  rw [State.memWrite_cell h hb, State.memRead, State.writeCell_blocked, hb]
  rw [State.busRead_cell (c := c) (by simpa using h), State.readCell_writeCell]
  simp

/-- A store to a memory cell leaves what is read at every address that is not that cell. -/
theorem State.memRead_memWrite_other {s : State} {a b : Word} {c : MemCell} (h : s.cell? a = some c)
    (hc : s.cell? b ≠ some c) (v : Byte) : (s.memWrite a v).memRead b = s.memRead b := by
  cases hb : s.blocked a with
  | true => simp [State.memWrite, hb]
  | false =>
    rw [State.memWrite_cell h hb]
    simp only [State.memRead, State.writeCell_blocked]
    split
    · rfl
    · exact State.busRead_writeCell_other v hc

end Sys2Proof.Machine
end

