-- ==== Sys2Proof/Laws/Exec.lean ====
section
/-! SUPPORT. What any instruction can do. Every meaning answers a next state, and what it changes it
changes by three means only: the CPU's own fields (F's low nibble staying as it is or becoming zero),
CPU bus writes, and STOP's reset of the timer counter. -/

namespace Sys2Proof.Machine

/-- A property of states that those three means keep. -/
structure Keeps (P : State → Prop) : Prop where
  cpu : ∀ s c, P s → c.f &&& 0x0F#8 = s.cpu.f &&& 0x0F#8 ∨ c.f &&& 0x0F#8 = 0#8 → P { s with cpu := c }
  write : ∀ s a v, P s → P (s.memWrite a v)
  stop : ∀ s, P s → P { s with timer := s.timer.resetCounter }

/-- A meaning answers a next state, and that state has the property. -/
def Answers (P : State → Prop) (r : Result) : Prop := ∃ t, r = .next t ∧ P t

namespace Keeps

variable {P : State → Prop} {s t : State}

/-- A change of the CPU alone that keeps F's low nibble. -/
theorem ofCpu (k : Keeps P) (h : P s) (ht : t = { s with cpu := t.cpu })
    (hf : t.cpu.f &&& 0x0F#8 = s.cpu.f &&& 0x0F#8) : P t := ht ▸ k.cpu s t.cpu h (.inl hf)

theorem charge (k : Keeps P) (h : P s) (n : Nat) : P (s.charge n) := k.ofCpu h rfl rfl
theorem setPc (k : Keeps P) (h : P s) (v : Word) : P (s.setPc v) := k.ofCpu h rfl rfl
theorem setSp (k : Keeps P) (h : P s) (v : Word) : P (s.setSp v) := k.ofCpu h rfl rfl
theorem setA (k : Keeps P) (h : P s) (v : Byte) : P (s.setA v) := k.ofCpu h rfl rfl
theorem setBc (k : Keeps P) (h : P s) (v : Word) : P (s.setBc v) := k.ofCpu h rfl rfl
theorem setDe (k : Keeps P) (h : P s) (v : Word) : P (s.setDe v) := k.ofCpu h rfl rfl
theorem setHl (k : Keeps P) (h : P s) (v : Word) : P (s.setHl v) := k.ofCpu h rfl rfl

theorem setF (k : Keeps P) (h : P s) (v : Byte) : P (s.setF v) :=
  k.cpu s (s.setF v).cpu h (.inr (maskF_low v))

theorem setFlags (k : Keeps P) (h : P s) (z n hf c : Bool) : P (s.setFlags z n hf c) :=
  k.ofCpu h rfl (packFlags_low ..)

theorem setReg8 (k : Keeps P) (h : P s) (r : Reg8) (v : Byte) : P (s.setReg8 r v) :=
  k.ofCpu h (by cases r <;> rfl) (by simp)

theorem writeRR (k : Keeps P) (h : P s) (rr : RR) (v : Word) : P (s.writeRR rr v) := by
  cases rr
  · exact k.setBc h v
  · exact k.setDe h v
  · exact k.setHl h v
  · exact k.setSp h v

theorem writeStackRR (k : Keeps P) (h : P s) (rr : StackRR) (v : Word) : P (s.writeStackRR rr v) := by
  cases rr
  · exact k.setBc h v
  · exact k.setDe h v
  · exact k.setHl h v
  · exact k.setF (k.setA h _) _

theorem writeR8 (k : Keeps P) (h : P s) (r : R8) (v : Byte) : P (s.writeR8 r v) := by
  cases r
  · exact k.setReg8 h _ v
  · exact k.write s _ v h

theorem push16 (k : Keeps P) (h : P s) (v : Word) : P (s.push16 v) :=
  k.write _ _ _ (k.setSp (k.write _ _ _ (k.setSp h _)) _)

theorem memWrite16 (k : Keeps P) (h : P s) (a v : Word) : P (s.memWrite16 a v) :=
  k.write _ _ _ (k.write _ _ _ h)

/-! ## The shapes -/

theorem loadReg (k : Keeps P) (h : P s) {r r' : Reg8} : Answers P (Machine.loadReg r r' s) :=
  ⟨_, rfl, k.charge (k.setReg8 h _ _) _⟩
theorem loadRegImm (k : Keeps P) (h : P s) {r : Reg8} {n : Byte} : Answers P (Machine.loadRegImm r n s) :=
  ⟨_, rfl, k.charge (k.setReg8 h _ _) _⟩
theorem loadRegMem (k : Keeps P) (h : P s) {r : Reg8} : Answers P (Machine.loadRegMem r s) :=
  ⟨_, rfl, k.charge (k.setReg8 h _ _) _⟩
theorem storeReg (k : Keeps P) (h : P s) {r : Reg8} : Answers P (Machine.storeReg r s) :=
  ⟨_, rfl, k.charge (k.write _ _ _ h) _⟩
theorem storeImm (k : Keeps P) (h : P s) {n : Byte} : Answers P (Machine.storeImm n s) :=
  ⟨_, rfl, k.charge (k.write _ _ _ h) _⟩
theorem loadA (k : Keeps P) (h : P s) {a : Word} {n : Nat} : Answers P (Machine.loadA a n s) :=
  ⟨_, rfl, k.charge (k.setA h _) _⟩
theorem storeA (k : Keeps P) (h : P s) {a : Word} {n : Nat} : Answers P (Machine.storeA a n s) :=
  ⟨_, rfl, k.charge (k.write _ _ _ h) _⟩
theorem loadAStep (k : Keeps P) (h : P s) {v : Word} : Answers P (Machine.loadAStep v s) :=
  ⟨_, rfl, k.charge (k.setHl (k.setA h _) _) _⟩
theorem storeAStep (k : Keeps P) (h : P s) {v : Word} : Answers P (Machine.storeAStep v s) :=
  ⟨_, rfl, k.charge (k.setHl (k.write _ _ _ h) _) _⟩
theorem loadPairImm (k : Keeps P) (h : P s) {rr : RR} {n : Word} :
    Answers P (Machine.loadPairImm rr n s) := ⟨_, rfl, k.charge (k.writeRR h _ _) _⟩
theorem storeSp (k : Keeps P) (h : P s) {a : Word} : Answers P (Machine.storeSp a s) :=
  ⟨_, rfl, k.charge (k.memWrite16 h _ _) _⟩
theorem loadSpHl (k : Keeps P) (h : P s) : Answers P (Machine.loadSpHl s) :=
  ⟨_, rfl, k.charge (k.setSp h _) _⟩
theorem pushPair (k : Keeps P) (h : P s) {rr : StackRR} : Answers P (Machine.pushPair rr s) :=
  ⟨_, rfl, k.charge (k.push16 h _) _⟩
theorem popPair (k : Keeps P) (h : P s) {rr : StackRR} : Answers P (Machine.popPair rr s) :=
  ⟨_, rfl, k.charge (k.writeStackRR (k.setSp h _) _ _) _⟩

/-- A two-operand operation keeps the property whatever its operand. -/
abbrev Alu (P : State → Prop) (op : Byte → State → State) : Prop := ∀ (v : Byte) (s : State), P s → P (op v s)

theorem addA (k : Keeps P) : Alu P Machine.addA := fun _ _ h => k.setFlags (k.setA h _) _ _ _ _
theorem adcA (k : Keeps P) : Alu P Machine.adcA := fun _ _ h => k.setFlags (k.setA h _) _ _ _ _
theorem subA (k : Keeps P) : Alu P Machine.subA := fun _ _ h => k.setFlags (k.setA h _) _ _ _ _
theorem sbcA (k : Keeps P) : Alu P Machine.sbcA := fun _ _ h => k.setFlags (k.setA h _) _ _ _ _
theorem andA (k : Keeps P) : Alu P Machine.andA := fun _ _ h => k.setFlags (k.setA h _) _ _ _ _
theorem xorA (k : Keeps P) : Alu P Machine.xorA := fun _ _ h => k.setFlags (k.setA h _) _ _ _ _
theorem orA (k : Keeps P) : Alu P Machine.orA := fun _ _ h => k.setFlags (k.setA h _) _ _ _ _
theorem cpA (k : Keeps P) : Alu P Machine.cpA := fun _ _ h => k.setFlags h _ _ _ _

theorem aluR8 (k : Keeps P) {op : Byte → State → State} (ho : Alu P op) (h : P s) {r : R8} :
    Answers P (Machine.aluR8 op r s) := ⟨_, rfl, k.charge (ho _ _ h) _⟩
theorem aluImm (k : Keeps P) {op : Byte → State → State} (ho : Alu P op) (h : P s) {n : Byte} :
    Answers P (Machine.aluImm op n s) := ⟨_, rfl, k.charge (ho _ _ h) _⟩
theorem incR8 (k : Keeps P) (h : P s) {r : R8} : Answers P (Machine.incR8 r s) :=
  ⟨_, rfl, k.charge (k.setFlags (k.writeR8 h _ _) _ _ _ _) _⟩
theorem decR8 (k : Keeps P) (h : P s) {r : R8} : Answers P (Machine.decR8 r s) :=
  ⟨_, rfl, k.charge (k.setFlags (k.writeR8 h _ _) _ _ _ _) _⟩
theorem decimalAdjust (k : Keeps P) (h : P s) : Answers P (Machine.decimalAdjust s) :=
  ⟨_, rfl, k.charge (k.setFlags (k.setA h _) _ _ _ _) _⟩
theorem complementA (k : Keeps P) (h : P s) : Answers P (Machine.complementA s) :=
  ⟨_, rfl, k.charge (k.setFlags (k.setA h _) _ _ _ _) _⟩
theorem setCarry (k : Keeps P) (h : P s) {c : Bool} : Answers P (Machine.setCarry c s) :=
  ⟨_, rfl, k.charge (k.setFlags h _ _ _ _) _⟩
theorem addHl (k : Keeps P) (h : P s) {rr : RR} : Answers P (Machine.addHl rr s) :=
  ⟨_, rfl, k.charge (k.setFlags (k.setHl h _) _ _ _ _) _⟩
theorem incPair (k : Keeps P) (h : P s) {rr : RR} : Answers P (Machine.incPair rr s) :=
  ⟨_, rfl, k.charge (k.writeRR h _ _) _⟩
theorem decPair (k : Keeps P) (h : P s) {rr : RR} : Answers P (Machine.decPair rr s) :=
  ⟨_, rfl, k.charge (k.writeRR h _ _) _⟩
theorem addSp (k : Keeps P) (h : P s) {e : Byte} : Answers P (Machine.addSp e s) :=
  ⟨_, rfl, k.charge (k.setSp (k.setFlags h _ _ _ _) _) _⟩
theorem loadHlSp (k : Keeps P) (h : P s) {e : Byte} : Answers P (Machine.loadHlSp e s) :=
  ⟨_, rfl, k.charge (k.setHl (k.setFlags h _ _ _ _) _) _⟩
theorem rotA (k : Keeps P) (h : P s) {op : Rotate} : Answers P (Machine.rotA op s) :=
  ⟨_, rfl, k.charge (k.setFlags (k.setA h _) _ _ _ _) _⟩
theorem rotR8 (k : Keeps P) (h : P s) {op : Rotate} {r : R8} : Answers P (Machine.rotR8 op r s) :=
  ⟨_, rfl, k.charge (k.setFlags (k.writeR8 h _ _) _ _ _ _) _⟩
theorem bitBit (k : Keeps P) (h : P s) {b : Nat} {r : R8} : Answers P (Machine.bitBit b r s) :=
  ⟨_, rfl, k.charge (k.setFlags h _ _ _ _) _⟩
theorem resBit (k : Keeps P) (h : P s) {b : Nat} {r : R8} : Answers P (Machine.resBit b r s) :=
  ⟨_, rfl, k.charge (k.writeR8 h _ _) _⟩
theorem setBit (k : Keeps P) (h : P s) {b : Nat} {r : R8} : Answers P (Machine.setBit b r s) :=
  ⟨_, rfl, k.charge (k.writeR8 h _ _) _⟩

theorem cbTable (k : Keeps P) (h : P s) {op2 : Byte} : Answers P (Machine.cbTable op2 s) := by
  unfold Machine.cbTable
  dsimp only
  split
  · exact k.rotR8 h
  · exact k.bitBit h
  · exact k.resBit h
  · exact k.setBit h

theorem jump (k : Keeps P) (h : P s) {a : Word} : Answers P (Machine.jump a s) :=
  ⟨_, rfl, k.charge (k.setPc h _) _⟩
theorem jumpHl (k : Keeps P) (h : P s) : Answers P (Machine.jumpHl s) :=
  ⟨_, rfl, k.charge (k.setPc h _) _⟩
theorem jumpRelative (k : Keeps P) (h : P s) {e : Byte} : Answers P (Machine.jumpRelative e s) :=
  ⟨_, rfl, k.charge (k.setPc h _) _⟩
theorem call (k : Keeps P) (h : P s) {a : Word} : Answers P (Machine.call a s) :=
  ⟨_, rfl, k.charge (k.setPc (k.push16 h _) _) _⟩
theorem ret (k : Keeps P) (h : P s) : Answers P (Machine.ret s) :=
  ⟨_, rfl, k.charge (k.setPc (k.setSp h _) _) _⟩
theorem reti (k : Keeps P) (h : P s) : Answers P (Machine.reti s) :=
  ⟨_, rfl, k.charge (k.ofCpu (t := s.returnFromInterrupt)
    (k.setPc (k.setSp h (s.cpu.sp + 2#16)) s.top16) rfl rfl) _⟩
theorem restart (k : Keeps P) (h : P s) {a : Word} : Answers P (Machine.restart a s) :=
  ⟨_, rfl, k.charge (k.setPc (k.push16 h _) _) _⟩

theorem jumpIf (k : Keeps P) (h : P s) {cc : Cond} {a : Word} : Answers P (Machine.jumpIf cc a s) := by
  unfold Machine.jumpIf
  split
  · exact ⟨_, rfl, k.charge (k.setPc h _) _⟩
  · exact ⟨_, rfl, k.charge h _⟩

theorem jumpRelativeIf (k : Keeps P) (h : P s) {cc : Cond} {e : Byte} :
    Answers P (Machine.jumpRelativeIf cc e s) := by
  unfold Machine.jumpRelativeIf
  split
  · exact ⟨_, rfl, k.charge (k.setPc h _) _⟩
  · exact ⟨_, rfl, k.charge h _⟩

theorem callIf (k : Keeps P) (h : P s) {cc : Cond} {a : Word} : Answers P (Machine.callIf cc a s) := by
  unfold Machine.callIf
  split
  · exact ⟨_, rfl, k.charge (k.setPc (k.push16 h _) _) _⟩
  · exact ⟨_, rfl, k.charge h _⟩

theorem retIf (k : Keeps P) (h : P s) {cc : Cond} : Answers P (Machine.retIf cc s) := by
  unfold Machine.retIf
  split
  · exact ⟨_, rfl, k.charge (k.setPc (k.setSp h _) _) _⟩
  · exact ⟨_, rfl, k.charge h _⟩

theorem noOperation (k : Keeps P) (h : P s) : Answers P (Machine.noOperation s) :=
  ⟨_, rfl, k.charge h _⟩

theorem haltCpu (k : Keeps P) (h : P s) : Answers P (Machine.haltCpu s) := by
  unfold Machine.haltCpu
  split
  · exact ⟨_, rfl, k.ofCpu h rfl rfl⟩
  · exact ⟨_, rfl, k.ofCpu h rfl rfl⟩

theorem stopCpu (k : Keeps P) (h : P s) : Answers P (Machine.stopCpu s) :=
  ⟨_, rfl, k.ofCpu (k.stop s h) rfl rfl⟩
theorem disableInterrupts (k : Keeps P) (h : P s) : Answers P (Machine.disableInterrupts s) :=
  ⟨_, rfl, k.ofCpu h rfl rfl⟩
theorem enableInterrupts (k : Keeps P) (h : P s) : Answers P (Machine.enableInterrupts s) :=
  ⟨_, rfl, k.ofCpu h rfl rfl⟩
theorem illegal (k : Keeps P) (h : P s) {op : Byte} : Answers P (Machine.illegal op s) :=
  ⟨_, rfl, k.ofCpu h rfl rfl⟩

/-- Every instruction answers a next state, and keeps what the three means keep. -/
theorem exec (k : Keeps P) (h : P s) (i : Instr) : Answers P (Machine.exec i s) := by
  cases i with
  | nop => exact k.noOperation h
  | ld_BC_d16 _ => exact k.loadPairImm h
  | ld_atBC_A => exact k.storeA h
  | inc_BC => exact k.incPair h
  | inc_B => exact k.incR8 h
  | dec_B => exact k.decR8 h
  | ld_B_d8 _ => exact k.loadRegImm h
  | rlca => exact k.rotA h
  | ld_ata16_SP _ => exact k.storeSp h
  | add_HL_BC => exact k.addHl h
  | ld_A_atBC => exact k.loadA h
  | dec_BC => exact k.decPair h
  | inc_C => exact k.incR8 h
  | dec_C => exact k.decR8 h
  | ld_C_d8 _ => exact k.loadRegImm h
  | rrca => exact k.rotA h
  | stop _ => exact k.stopCpu h
  | ld_DE_d16 _ => exact k.loadPairImm h
  | ld_atDE_A => exact k.storeA h
  | inc_DE => exact k.incPair h
  | inc_D => exact k.incR8 h
  | dec_D => exact k.decR8 h
  | ld_D_d8 _ => exact k.loadRegImm h
  | rla => exact k.rotA h
  | jr_e8 _ => exact k.jumpRelative h
  | add_HL_DE => exact k.addHl h
  | ld_A_atDE => exact k.loadA h
  | dec_DE => exact k.decPair h
  | inc_E => exact k.incR8 h
  | dec_E => exact k.decR8 h
  | ld_E_d8 _ => exact k.loadRegImm h
  | rra => exact k.rotA h
  | jr_NZ_e8 _ => exact k.jumpRelativeIf h
  | ld_HL_d16 _ => exact k.loadPairImm h
  | ld_atHLi_A => exact k.storeAStep h
  | inc_HL => exact k.incPair h
  | inc_H => exact k.incR8 h
  | dec_H => exact k.decR8 h
  | ld_H_d8 _ => exact k.loadRegImm h
  | daa => exact k.decimalAdjust h
  | jr_Z_e8 _ => exact k.jumpRelativeIf h
  | add_HL_HL => exact k.addHl h
  | ld_A_atHLi => exact k.loadAStep h
  | dec_HL => exact k.decPair h
  | inc_L => exact k.incR8 h
  | dec_L => exact k.decR8 h
  | ld_L_d8 _ => exact k.loadRegImm h
  | cpl => exact k.complementA h
  | jr_NC_e8 _ => exact k.jumpRelativeIf h
  | ld_SP_d16 _ => exact k.loadPairImm h
  | ld_atHLd_A => exact k.storeAStep h
  | inc_SP => exact k.incPair h
  | inc_atHL => exact k.incR8 h
  | dec_atHL => exact k.decR8 h
  | ld_atHL_d8 _ => exact k.storeImm h
  | scf => exact k.setCarry h
  | jr_C_e8 _ => exact k.jumpRelativeIf h
  | add_HL_SP => exact k.addHl h
  | ld_A_atHLd => exact k.loadAStep h
  | dec_SP => exact k.decPair h
  | inc_A => exact k.incR8 h
  | dec_A => exact k.decR8 h
  | ld_A_d8 _ => exact k.loadRegImm h
  | ccf => exact k.setCarry h
  | ld_B_B => exact k.loadReg h
  | ld_B_C => exact k.loadReg h
  | ld_B_D => exact k.loadReg h
  | ld_B_E => exact k.loadReg h
  | ld_B_H => exact k.loadReg h
  | ld_B_L => exact k.loadReg h
  | ld_B_atHL => exact k.loadRegMem h
  | ld_B_A => exact k.loadReg h
  | ld_C_B => exact k.loadReg h
  | ld_C_C => exact k.loadReg h
  | ld_C_D => exact k.loadReg h
  | ld_C_E => exact k.loadReg h
  | ld_C_H => exact k.loadReg h
  | ld_C_L => exact k.loadReg h
  | ld_C_atHL => exact k.loadRegMem h
  | ld_C_A => exact k.loadReg h
  | ld_D_B => exact k.loadReg h
  | ld_D_C => exact k.loadReg h
  | ld_D_D => exact k.loadReg h
  | ld_D_E => exact k.loadReg h
  | ld_D_H => exact k.loadReg h
  | ld_D_L => exact k.loadReg h
  | ld_D_atHL => exact k.loadRegMem h
  | ld_D_A => exact k.loadReg h
  | ld_E_B => exact k.loadReg h
  | ld_E_C => exact k.loadReg h
  | ld_E_D => exact k.loadReg h
  | ld_E_E => exact k.loadReg h
  | ld_E_H => exact k.loadReg h
  | ld_E_L => exact k.loadReg h
  | ld_E_atHL => exact k.loadRegMem h
  | ld_E_A => exact k.loadReg h
  | ld_H_B => exact k.loadReg h
  | ld_H_C => exact k.loadReg h
  | ld_H_D => exact k.loadReg h
  | ld_H_E => exact k.loadReg h
  | ld_H_H => exact k.loadReg h
  | ld_H_L => exact k.loadReg h
  | ld_H_atHL => exact k.loadRegMem h
  | ld_H_A => exact k.loadReg h
  | ld_L_B => exact k.loadReg h
  | ld_L_C => exact k.loadReg h
  | ld_L_D => exact k.loadReg h
  | ld_L_E => exact k.loadReg h
  | ld_L_H => exact k.loadReg h
  | ld_L_L => exact k.loadReg h
  | ld_L_atHL => exact k.loadRegMem h
  | ld_L_A => exact k.loadReg h
  | ld_atHL_B => exact k.storeReg h
  | ld_atHL_C => exact k.storeReg h
  | ld_atHL_D => exact k.storeReg h
  | ld_atHL_E => exact k.storeReg h
  | ld_atHL_H => exact k.storeReg h
  | ld_atHL_L => exact k.storeReg h
  | halt => exact k.haltCpu h
  | ld_atHL_A => exact k.storeReg h
  | ld_A_B => exact k.loadReg h
  | ld_A_C => exact k.loadReg h
  | ld_A_D => exact k.loadReg h
  | ld_A_E => exact k.loadReg h
  | ld_A_H => exact k.loadReg h
  | ld_A_L => exact k.loadReg h
  | ld_A_atHL => exact k.loadRegMem h
  | ld_A_A => exact k.loadReg h
  | add_A_B => exact k.aluR8 k.addA h
  | add_A_C => exact k.aluR8 k.addA h
  | add_A_D => exact k.aluR8 k.addA h
  | add_A_E => exact k.aluR8 k.addA h
  | add_A_H => exact k.aluR8 k.addA h
  | add_A_L => exact k.aluR8 k.addA h
  | add_A_atHL => exact k.aluR8 k.addA h
  | add_A_A => exact k.aluR8 k.addA h
  | adc_A_B => exact k.aluR8 k.adcA h
  | adc_A_C => exact k.aluR8 k.adcA h
  | adc_A_D => exact k.aluR8 k.adcA h
  | adc_A_E => exact k.aluR8 k.adcA h
  | adc_A_H => exact k.aluR8 k.adcA h
  | adc_A_L => exact k.aluR8 k.adcA h
  | adc_A_atHL => exact k.aluR8 k.adcA h
  | adc_A_A => exact k.aluR8 k.adcA h
  | sub_B => exact k.aluR8 k.subA h
  | sub_C => exact k.aluR8 k.subA h
  | sub_D => exact k.aluR8 k.subA h
  | sub_E => exact k.aluR8 k.subA h
  | sub_H => exact k.aluR8 k.subA h
  | sub_L => exact k.aluR8 k.subA h
  | sub_atHL => exact k.aluR8 k.subA h
  | sub_A => exact k.aluR8 k.subA h
  | sbc_A_B => exact k.aluR8 k.sbcA h
  | sbc_A_C => exact k.aluR8 k.sbcA h
  | sbc_A_D => exact k.aluR8 k.sbcA h
  | sbc_A_E => exact k.aluR8 k.sbcA h
  | sbc_A_H => exact k.aluR8 k.sbcA h
  | sbc_A_L => exact k.aluR8 k.sbcA h
  | sbc_A_atHL => exact k.aluR8 k.sbcA h
  | sbc_A_A => exact k.aluR8 k.sbcA h
  | and_B => exact k.aluR8 k.andA h
  | and_C => exact k.aluR8 k.andA h
  | and_D => exact k.aluR8 k.andA h
  | and_E => exact k.aluR8 k.andA h
  | and_H => exact k.aluR8 k.andA h
  | and_L => exact k.aluR8 k.andA h
  | and_atHL => exact k.aluR8 k.andA h
  | and_A => exact k.aluR8 k.andA h
  | xor_B => exact k.aluR8 k.xorA h
  | xor_C => exact k.aluR8 k.xorA h
  | xor_D => exact k.aluR8 k.xorA h
  | xor_E => exact k.aluR8 k.xorA h
  | xor_H => exact k.aluR8 k.xorA h
  | xor_L => exact k.aluR8 k.xorA h
  | xor_atHL => exact k.aluR8 k.xorA h
  | xor_A => exact k.aluR8 k.xorA h
  | or_B => exact k.aluR8 k.orA h
  | or_C => exact k.aluR8 k.orA h
  | or_D => exact k.aluR8 k.orA h
  | or_E => exact k.aluR8 k.orA h
  | or_H => exact k.aluR8 k.orA h
  | or_L => exact k.aluR8 k.orA h
  | or_atHL => exact k.aluR8 k.orA h
  | or_A => exact k.aluR8 k.orA h
  | cp_B => exact k.aluR8 k.cpA h
  | cp_C => exact k.aluR8 k.cpA h
  | cp_D => exact k.aluR8 k.cpA h
  | cp_E => exact k.aluR8 k.cpA h
  | cp_H => exact k.aluR8 k.cpA h
  | cp_L => exact k.aluR8 k.cpA h
  | cp_atHL => exact k.aluR8 k.cpA h
  | cp_A => exact k.aluR8 k.cpA h
  | ret_NZ => exact k.retIf h
  | pop_BC => exact k.popPair h
  | jp_NZ_a16 _ => exact k.jumpIf h
  | jp_a16 _ => exact k.jump h
  | call_NZ_a16 _ => exact k.callIf h
  | push_BC => exact k.pushPair h
  | add_A_d8 _ => exact k.aluImm k.addA h
  | rst_00H => exact k.restart h
  | ret_Z => exact k.retIf h
  | ret => exact k.ret h
  | jp_Z_a16 _ => exact k.jumpIf h
  | prefix_CB _ => exact k.cbTable h
  | call_Z_a16 _ => exact k.callIf h
  | call_a16 _ => exact k.call h
  | adc_A_d8 _ => exact k.aluImm k.adcA h
  | rst_08H => exact k.restart h
  | ret_NC => exact k.retIf h
  | pop_DE => exact k.popPair h
  | jp_NC_a16 _ => exact k.jumpIf h
  | illegal_D3 => exact k.illegal h
  | call_NC_a16 _ => exact k.callIf h
  | push_DE => exact k.pushPair h
  | sub_d8 _ => exact k.aluImm k.subA h
  | rst_10H => exact k.restart h
  | ret_C => exact k.retIf h
  | reti => exact k.reti h
  | jp_C_a16 _ => exact k.jumpIf h
  | illegal_DB => exact k.illegal h
  | call_C_a16 _ => exact k.callIf h
  | illegal_DD => exact k.illegal h
  | sbc_A_d8 _ => exact k.aluImm k.sbcA h
  | rst_18H => exact k.restart h
  | ldh_ata8_A _ => exact k.storeA h
  | pop_HL => exact k.popPair h
  | ld_atC_A => exact k.storeA h
  | illegal_E3 => exact k.illegal h
  | illegal_E4 => exact k.illegal h
  | push_HL => exact k.pushPair h
  | and_d8 _ => exact k.aluImm k.andA h
  | rst_20H => exact k.restart h
  | add_SP_e8 _ => exact k.addSp h
  | jp_HL => exact k.jumpHl h
  | ld_ata16_A _ => exact k.storeA h
  | illegal_EB => exact k.illegal h
  | illegal_EC => exact k.illegal h
  | illegal_ED => exact k.illegal h
  | xor_d8 _ => exact k.aluImm k.xorA h
  | rst_28H => exact k.restart h
  | ldh_A_ata8 _ => exact k.loadA h
  | pop_AF => exact k.popPair h
  | ld_A_atC => exact k.loadA h
  | di => exact k.disableInterrupts h
  | illegal_F4 => exact k.illegal h
  | push_AF => exact k.pushPair h
  | or_d8 _ => exact k.aluImm k.orA h
  | rst_30H => exact k.restart h
  | ld_HL_SPe8 _ => exact k.loadHlSp h
  | ld_SP_HL => exact k.loadSpHl h
  | ld_A_ata16 _ => exact k.loadA h
  | ei => exact k.enableInterrupts h
  | illegal_FC => exact k.illegal h
  | illegal_FD => exact k.illegal h
  | cp_d8 _ => exact k.aluImm k.cpA h
  | rst_38H => exact k.restart h
  | rlc_B => exact k.rotR8 h
  | rlc_C => exact k.rotR8 h
  | rlc_D => exact k.rotR8 h
  | rlc_E => exact k.rotR8 h
  | rlc_H => exact k.rotR8 h
  | rlc_L => exact k.rotR8 h
  | rlc_atHL => exact k.rotR8 h
  | rlc_A => exact k.rotR8 h
  | rrc_B => exact k.rotR8 h
  | rrc_C => exact k.rotR8 h
  | rrc_D => exact k.rotR8 h
  | rrc_E => exact k.rotR8 h
  | rrc_H => exact k.rotR8 h
  | rrc_L => exact k.rotR8 h
  | rrc_atHL => exact k.rotR8 h
  | rrc_A => exact k.rotR8 h
  | rl_B => exact k.rotR8 h
  | rl_C => exact k.rotR8 h
  | rl_D => exact k.rotR8 h
  | rl_E => exact k.rotR8 h
  | rl_H => exact k.rotR8 h
  | rl_L => exact k.rotR8 h
  | rl_atHL => exact k.rotR8 h
  | rl_A => exact k.rotR8 h
  | rr_B => exact k.rotR8 h
  | rr_C => exact k.rotR8 h
  | rr_D => exact k.rotR8 h
  | rr_E => exact k.rotR8 h
  | rr_H => exact k.rotR8 h
  | rr_L => exact k.rotR8 h
  | rr_atHL => exact k.rotR8 h
  | rr_A => exact k.rotR8 h
  | sla_B => exact k.rotR8 h
  | sla_C => exact k.rotR8 h
  | sla_D => exact k.rotR8 h
  | sla_E => exact k.rotR8 h
  | sla_H => exact k.rotR8 h
  | sla_L => exact k.rotR8 h
  | sla_atHL => exact k.rotR8 h
  | sla_A => exact k.rotR8 h
  | sra_B => exact k.rotR8 h
  | sra_C => exact k.rotR8 h
  | sra_D => exact k.rotR8 h
  | sra_E => exact k.rotR8 h
  | sra_H => exact k.rotR8 h
  | sra_L => exact k.rotR8 h
  | sra_atHL => exact k.rotR8 h
  | sra_A => exact k.rotR8 h
  | swap_B => exact k.rotR8 h
  | swap_C => exact k.rotR8 h
  | swap_D => exact k.rotR8 h
  | swap_E => exact k.rotR8 h
  | swap_H => exact k.rotR8 h
  | swap_L => exact k.rotR8 h
  | swap_atHL => exact k.rotR8 h
  | swap_A => exact k.rotR8 h
  | srl_B => exact k.rotR8 h
  | srl_C => exact k.rotR8 h
  | srl_D => exact k.rotR8 h
  | srl_E => exact k.rotR8 h
  | srl_H => exact k.rotR8 h
  | srl_L => exact k.rotR8 h
  | srl_atHL => exact k.rotR8 h
  | srl_A => exact k.rotR8 h
  | bit_0_B => exact k.bitBit h
  | bit_0_C => exact k.bitBit h
  | bit_0_D => exact k.bitBit h
  | bit_0_E => exact k.bitBit h
  | bit_0_H => exact k.bitBit h
  | bit_0_L => exact k.bitBit h
  | bit_0_atHL => exact k.bitBit h
  | bit_0_A => exact k.bitBit h
  | bit_1_B => exact k.bitBit h
  | bit_1_C => exact k.bitBit h
  | bit_1_D => exact k.bitBit h
  | bit_1_E => exact k.bitBit h
  | bit_1_H => exact k.bitBit h
  | bit_1_L => exact k.bitBit h
  | bit_1_atHL => exact k.bitBit h
  | bit_1_A => exact k.bitBit h
  | bit_2_B => exact k.bitBit h
  | bit_2_C => exact k.bitBit h
  | bit_2_D => exact k.bitBit h
  | bit_2_E => exact k.bitBit h
  | bit_2_H => exact k.bitBit h
  | bit_2_L => exact k.bitBit h
  | bit_2_atHL => exact k.bitBit h
  | bit_2_A => exact k.bitBit h
  | bit_3_B => exact k.bitBit h
  | bit_3_C => exact k.bitBit h
  | bit_3_D => exact k.bitBit h
  | bit_3_E => exact k.bitBit h
  | bit_3_H => exact k.bitBit h
  | bit_3_L => exact k.bitBit h
  | bit_3_atHL => exact k.bitBit h
  | bit_3_A => exact k.bitBit h
  | bit_4_B => exact k.bitBit h
  | bit_4_C => exact k.bitBit h
  | bit_4_D => exact k.bitBit h
  | bit_4_E => exact k.bitBit h
  | bit_4_H => exact k.bitBit h
  | bit_4_L => exact k.bitBit h
  | bit_4_atHL => exact k.bitBit h
  | bit_4_A => exact k.bitBit h
  | bit_5_B => exact k.bitBit h
  | bit_5_C => exact k.bitBit h
  | bit_5_D => exact k.bitBit h
  | bit_5_E => exact k.bitBit h
  | bit_5_H => exact k.bitBit h
  | bit_5_L => exact k.bitBit h
  | bit_5_atHL => exact k.bitBit h
  | bit_5_A => exact k.bitBit h
  | bit_6_B => exact k.bitBit h
  | bit_6_C => exact k.bitBit h
  | bit_6_D => exact k.bitBit h
  | bit_6_E => exact k.bitBit h
  | bit_6_H => exact k.bitBit h
  | bit_6_L => exact k.bitBit h
  | bit_6_atHL => exact k.bitBit h
  | bit_6_A => exact k.bitBit h
  | bit_7_B => exact k.bitBit h
  | bit_7_C => exact k.bitBit h
  | bit_7_D => exact k.bitBit h
  | bit_7_E => exact k.bitBit h
  | bit_7_H => exact k.bitBit h
  | bit_7_L => exact k.bitBit h
  | bit_7_atHL => exact k.bitBit h
  | bit_7_A => exact k.bitBit h
  | res_0_B => exact k.resBit h
  | res_0_C => exact k.resBit h
  | res_0_D => exact k.resBit h
  | res_0_E => exact k.resBit h
  | res_0_H => exact k.resBit h
  | res_0_L => exact k.resBit h
  | res_0_atHL => exact k.resBit h
  | res_0_A => exact k.resBit h
  | res_1_B => exact k.resBit h
  | res_1_C => exact k.resBit h
  | res_1_D => exact k.resBit h
  | res_1_E => exact k.resBit h
  | res_1_H => exact k.resBit h
  | res_1_L => exact k.resBit h
  | res_1_atHL => exact k.resBit h
  | res_1_A => exact k.resBit h
  | res_2_B => exact k.resBit h
  | res_2_C => exact k.resBit h
  | res_2_D => exact k.resBit h
  | res_2_E => exact k.resBit h
  | res_2_H => exact k.resBit h
  | res_2_L => exact k.resBit h
  | res_2_atHL => exact k.resBit h
  | res_2_A => exact k.resBit h
  | res_3_B => exact k.resBit h
  | res_3_C => exact k.resBit h
  | res_3_D => exact k.resBit h
  | res_3_E => exact k.resBit h
  | res_3_H => exact k.resBit h
  | res_3_L => exact k.resBit h
  | res_3_atHL => exact k.resBit h
  | res_3_A => exact k.resBit h
  | res_4_B => exact k.resBit h
  | res_4_C => exact k.resBit h
  | res_4_D => exact k.resBit h
  | res_4_E => exact k.resBit h
  | res_4_H => exact k.resBit h
  | res_4_L => exact k.resBit h
  | res_4_atHL => exact k.resBit h
  | res_4_A => exact k.resBit h
  | res_5_B => exact k.resBit h
  | res_5_C => exact k.resBit h
  | res_5_D => exact k.resBit h
  | res_5_E => exact k.resBit h
  | res_5_H => exact k.resBit h
  | res_5_L => exact k.resBit h
  | res_5_atHL => exact k.resBit h
  | res_5_A => exact k.resBit h
  | res_6_B => exact k.resBit h
  | res_6_C => exact k.resBit h
  | res_6_D => exact k.resBit h
  | res_6_E => exact k.resBit h
  | res_6_H => exact k.resBit h
  | res_6_L => exact k.resBit h
  | res_6_atHL => exact k.resBit h
  | res_6_A => exact k.resBit h
  | res_7_B => exact k.resBit h
  | res_7_C => exact k.resBit h
  | res_7_D => exact k.resBit h
  | res_7_E => exact k.resBit h
  | res_7_H => exact k.resBit h
  | res_7_L => exact k.resBit h
  | res_7_atHL => exact k.resBit h
  | res_7_A => exact k.resBit h
  | set_0_B => exact k.setBit h
  | set_0_C => exact k.setBit h
  | set_0_D => exact k.setBit h
  | set_0_E => exact k.setBit h
  | set_0_H => exact k.setBit h
  | set_0_L => exact k.setBit h
  | set_0_atHL => exact k.setBit h
  | set_0_A => exact k.setBit h
  | set_1_B => exact k.setBit h
  | set_1_C => exact k.setBit h
  | set_1_D => exact k.setBit h
  | set_1_E => exact k.setBit h
  | set_1_H => exact k.setBit h
  | set_1_L => exact k.setBit h
  | set_1_atHL => exact k.setBit h
  | set_1_A => exact k.setBit h
  | set_2_B => exact k.setBit h
  | set_2_C => exact k.setBit h
  | set_2_D => exact k.setBit h
  | set_2_E => exact k.setBit h
  | set_2_H => exact k.setBit h
  | set_2_L => exact k.setBit h
  | set_2_atHL => exact k.setBit h
  | set_2_A => exact k.setBit h
  | set_3_B => exact k.setBit h
  | set_3_C => exact k.setBit h
  | set_3_D => exact k.setBit h
  | set_3_E => exact k.setBit h
  | set_3_H => exact k.setBit h
  | set_3_L => exact k.setBit h
  | set_3_atHL => exact k.setBit h
  | set_3_A => exact k.setBit h
  | set_4_B => exact k.setBit h
  | set_4_C => exact k.setBit h
  | set_4_D => exact k.setBit h
  | set_4_E => exact k.setBit h
  | set_4_H => exact k.setBit h
  | set_4_L => exact k.setBit h
  | set_4_atHL => exact k.setBit h
  | set_4_A => exact k.setBit h
  | set_5_B => exact k.setBit h
  | set_5_C => exact k.setBit h
  | set_5_D => exact k.setBit h
  | set_5_E => exact k.setBit h
  | set_5_H => exact k.setBit h
  | set_5_L => exact k.setBit h
  | set_5_atHL => exact k.setBit h
  | set_5_A => exact k.setBit h
  | set_6_B => exact k.setBit h
  | set_6_C => exact k.setBit h
  | set_6_D => exact k.setBit h
  | set_6_E => exact k.setBit h
  | set_6_H => exact k.setBit h
  | set_6_L => exact k.setBit h
  | set_6_atHL => exact k.setBit h
  | set_6_A => exact k.setBit h
  | set_7_B => exact k.setBit h
  | set_7_C => exact k.setBit h
  | set_7_D => exact k.setBit h
  | set_7_E => exact k.setBit h
  | set_7_H => exact k.setBit h
  | set_7_L => exact k.setBit h
  | set_7_atHL => exact k.setBit h
  | set_7_A => exact k.setBit h

end Keeps

/-- No instruction faults or is refused: `exec` answers a next state always. -/
theorem exec_next (i : Instr) (s : State) : ∃ t, exec i s = .next t := by
  have k : Keeps fun _ => True := ⟨fun _ _ _ _ => trivial, fun _ _ _ _ => trivial, fun _ _ => trivial⟩
  obtain ⟨t, ht, -⟩ := k.exec (s := s) trivial i
  exact ⟨t, ht⟩

/-- What an instruction's next state keeps. -/
theorem Keeps.exec_eq {P : State → Prop} (k : Keeps P) {s t : State} (h : P s) {i : Instr}
    (ht : Machine.exec i s = .next t) : P t := by
  obtain ⟨u, hu, hp⟩ := k.exec h i
  rw [hu] at ht
  cases ht
  exact hp

end Sys2Proof.Machine
end

