-- ==== Sys2Proof/Laws/Invariant.lean ====
section
/-! SUPPORT. How each part of the machine keeps its part of the invariant: the timer, the PPU, the DMA
engine, the cartridge, a CPU write and one T-cycle. -/

namespace Sys2Proof.Machine

/-! ## The timer -/

theorem Timer.increment_inv {t : Timer} (h : t.Inv) : t.increment.Inv := by
  unfold Timer.increment
  split
  · exact Nat.le_refl 4
  · exact h

theorem Timer.edge_inv {t : Timer} (old : Bool) (h : t.Inv) : (Timer.edge old t).Inv := by
  unfold Timer.edge
  split
  · exact Timer.increment_inv h
  · exact h

theorem Timer.countReload_inv {t : Timer} (h : t.Inv) : t.countReload.Inv := by
  unfold Timer.Inv at *
  unfold Timer.countReload
  split
  · exact h
  · exact Nat.zero_le 4
  · simp only
    omega

theorem Timer.tick_inv {t : Timer} (h : t.Inv) : t.tick.Inv :=
  Timer.edge_inv _ (Timer.countReload_inv h)

theorem Timer.resetCounter_inv {t : Timer} (h : t.Inv) : t.resetCounter.Inv := Timer.edge_inv _ h

theorem Timer.writeTac_inv {t : Timer} (v : Byte) (h : t.Inv) : (t.writeTac v).Inv :=
  Timer.edge_inv _ h

/-! ## The PPU -/

@[simp] theorem Ppu.statValue_latchStat (p : Ppu) : p.latchStat.statValue = p.statValue := rfl

/-- The invariant but for the latched STAT line, which the last step of every change restores. -/
structure Ppu.PreInv (p : Ppu) : Prop where
  ly_lt : p.ly.toNat < 154
  dot_lt : p.dot < 456
  window_lt : p.windowLine < 256
  coincidence_eq : p.coincidence = decide (p.ly = p.lyc)
  sprites_le : p.lineSprites.length ≤ 10
  sprites_lt : ∀ k ∈ p.lineSprites, k < 40
  mode_on : p.lcdOn = true → p.mode = scheduledMode p.ly.toNat p.dot
  off : p.lcdOn = false →
    p.mode = .hblank ∧ p.ly = 0#8 ∧ p.dot = 0 ∧ p.fbIndex = [] ∧ p.fbShade = []
  index_wf : p.fbIndex.wf = true ∧ p.fbIndex.within (160 * 144) = true
  shade_wf : p.fbShade.wf = true ∧ p.fbShade.within (160 * 144) = true

theorem Ppu.Inv.pre {p : Ppu} (h : p.Inv) : p.PreInv :=
  ⟨h.ly_lt, h.dot_lt, h.window_lt, h.coincidence_eq, h.sprites_le, h.sprites_lt, h.mode_on, h.off,
    h.index_wf, h.shade_wf⟩

/-- Latching the STAT line completes the invariant. -/
theorem Ppu.PreInv.latchStat {p : Ppu} (h : p.PreInv) : p.latchStat.Inv :=
  ⟨h.ly_lt, h.dot_lt, h.window_lt, h.coincidence_eq, rfl, h.sprites_le, h.sprites_lt, h.mode_on, h.off,
    h.index_wf, h.shade_wf⟩

theorem Ppu.writeStat_pre {p : Ppu} (v : Byte) (h : p.PreInv) : (p.writeStat v).PreInv :=
  ⟨h.ly_lt, h.dot_lt, h.window_lt, h.coincidence_eq, h.sprites_le, h.sprites_lt, h.mode_on, h.off,
    h.index_wf, h.shade_wf⟩

theorem Ppu.writeLyc_pre {p : Ppu} (v : Byte) (h : p.PreInv) : (p.writeLyc v).PreInv :=
  ⟨h.ly_lt, h.dot_lt, h.window_lt, rfl, h.sprites_le, h.sprites_lt, h.mode_on, h.off, h.index_wf,
    h.shade_wf⟩

theorem Ppu.writeLcdc_pre {p : Ppu} (v : Byte) (h : p.PreInv) : (p.writeLcdc v).PreInv := by
  unfold Ppu.writeLcdc
  dsimp only
  split
  · rename_i hc
    rw [Bool.and_eq_true, Bool.not_eq_true'] at hc
    refine ⟨(by decide : (0#8 : Byte).toNat < 154), (by decide : 0 < 456), h.window_lt, rfl, h.sprites_le, h.sprites_lt, fun hon => ?_,
      fun _ => ⟨rfl, rfl, rfl, rfl, rfl⟩, ⟨rfl, rfl⟩, ⟨rfl, rfl⟩⟩
    exact absurd (hc.2.symm.trans hon) Bool.false_ne_true
  · split
    · rename_i hc
      rw [Bool.and_eq_true] at hc
      refine ⟨(by decide : (0#8 : Byte).toNat < 154), (by decide : 0 < 456), (by decide : 0 < 256), rfl,
        h.sprites_le, h.sprites_lt, fun _ => rfl, fun hoff => ?_, h.index_wf, h.shade_wf⟩
      exact absurd (hoff.symm.trans hc.2) Bool.false_ne_true
    · rename_i h1 h2
      refine ⟨h.ly_lt, h.dot_lt, h.window_lt, h.coincidence_eq, h.sprites_le, h.sprites_lt,
        fun hon => h.mode_on ?_, fun hoff => h.off ?_, h.index_wf, h.shade_wf⟩
      · cases hp : p.lcdOn
        · exact absurd (by simp [hp, hon]) h2
        · rfl
      · cases hp : p.lcdOn
        · rfl
        · exact absurd (by simp [hp, hoff]) h1

/-! ## The DMA engine -/

theorem State.dmaTick_inv {s : State} (h : s.dma.Inv) : s.dmaTick.dma.Inv := by
  unfold State.dmaTick
  split
  · rename_i ha
    have := h.2 ha
    dsimp only
    split
    · refine ⟨by simp only; omega, fun hi => ?_⟩
      have := of_decide_eq_true hi
      simp only
      omega
    · refine ⟨by simp only; omega, fun _ => ?_⟩
      simp only
      omega
  · exact h

/-! ## The cartridge -/

theorem Mbc.write_inv {m : Mbc} (a : Nat) (v : Byte) (h : m.Inv) : (m.write a v).Inv := by
  cases m with
  | romOnly => trivial
  | mbc1 m =>
    simp only [Mbc.write, Mbc.Inv, Mbc1.write] at *
    split_ifs <;> simp_all
  | mbc3 m =>
    simp only [Mbc.write, Mbc.Inv, Mbc3.write] at *
    split_ifs <;> simp_all
  | mbc5 m => trivial

/-! ## A CPU write -/

theorem State.writeIo_inv {s : State} (r : IoReg) (v : Byte) (h : s.Inv) : (s.writeIo r v).Inv := by
  have hsc : (v &&& 0x81#8) &&& 0x7E#8 = 0#8 := by
    rw [BitVec.and_assoc]
    simp
  have keep : ∀ t : State, t.cpu = s.cpu → t.timer.Inv → t.serial.Inv → t.ppu.Inv → t.dma.Inv →
      t.cart = s.cart → t.vram = s.vram → t.wram = s.wram → t.oam = s.oam → t.hram = s.hram → t.Inv :=
    fun t h1 h2 h3 h4 h5 h6 h7 h8 h9 h10 => ⟨h1 ▸ h.cpu, h2, h3, h4, h5, h6 ▸ h.cart,
      ⟨h7 ▸ h.mem.vram, h8 ▸ h.mem.wram, h9 ▸ h.mem.oam, h10 ▸ h.mem.hram⟩⟩
  have hp := h.ppu
  cases r with
  | p1 => apply keep <;> simp [State.writeIo, h.timer, h.serial, h.ppu, h.dma]
  | sb => exact keep _ rfl h.timer h.serial h.ppu h.dma rfl rfl rfl rfl rfl
  | sc => exact keep _ rfl h.timer hsc h.ppu h.dma rfl rfl rfl rfl rfl
  | div => exact keep _ rfl (Timer.resetCounter_inv h.timer) h.serial h.ppu h.dma rfl rfl rfl rfl rfl
  | tima => exact keep _ rfl (Nat.zero_le 4) h.serial h.ppu h.dma rfl rfl rfl rfl rfl
  | tma => exact keep _ rfl h.timer h.serial h.ppu h.dma rfl rfl rfl rfl rfl
  | tac => exact keep _ rfl (Timer.writeTac_inv v h.timer) h.serial h.ppu h.dma rfl rfl rfl rfl rfl
  | ifl => exact keep _ rfl h.timer h.serial h.ppu h.dma rfl rfl rfl rfl rfl
  | lcdc =>
    apply keep <;> simp [State.writeIo, h.timer, h.serial, h.dma]
    exact (Ppu.writeLcdc_pre v hp.pre).latchStat
  | stat =>
    apply keep <;> simp [State.writeIo, h.timer, h.serial, h.dma]
    exact (Ppu.writeStat_pre v hp.pre).latchStat
  | lyc =>
    apply keep <;> simp [State.writeIo, h.timer, h.serial, h.dma]
    exact (Ppu.writeLyc_pre v hp.pre).latchStat
  | ly => exact h
  | dma => exact keep _ rfl h.timer h.serial h.ppu ⟨Nat.zero_le 640, fun _ => (by decide : 0 < 640)⟩ rfl rfl rfl rfl rfl
  | scy | scx | bgp | obp0 | obp1 | wy | wx =>
    refine keep _ rfl h.timer h.serial ?_ h.dma rfl rfl rfl rfl rfl
    exact ⟨hp.ly_lt, hp.dot_lt, hp.window_lt, hp.coincidence_eq, hp.stat_eq, hp.sprites_le,
      hp.sprites_lt, hp.mode_on, hp.off, hp.index_wf, hp.shade_wf⟩

/-- A CPU write keeps the invariant. -/
theorem State.memWrite_inv {s : State} (a : Word) (v : Byte) (h : s.Inv) : (s.memWrite a v).Inv := by
  apply State.memWrite_ind (P := State.Inv) _ _ _ h
  have hc := h.cart
  have hm := h.mem
  apply State.busWrite_ind (P := State.Inv) _ _ _ h
  · intro x _
    exact ⟨h.cpu, h.timer, h.serial, h.ppu, h.dma, ⟨hc.banks, hc.rom_wf, hc.eram_wf, Mbc.write_inv x v hc.mbc⟩,
      ⟨hm.vram, hm.wram, hm.oam, hm.hram⟩⟩
  · intro off ho
    exact ⟨h.cpu, h.timer, h.serial, h.ppu, h.dma, h.cart,
      ⟨⟨Cells.write_wf _ _ _ hm.vram.1, Cells.write_within _ _ _ _ ho hm.vram.2⟩, hm.wram, hm.oam, hm.hram⟩⟩
  · intro k hk
    exact ⟨h.cpu, h.timer, h.serial, h.ppu, h.dma, ⟨hc.banks, hc.rom_wf,
      ⟨Cells.write_wf _ _ _ hc.eram_wf.1, Cells.write_within _ _ _ _ hk hc.eram_wf.2⟩, hc.mbc⟩,
      ⟨hm.vram, hm.wram, hm.oam, hm.hram⟩⟩
  · intro off ho
    exact ⟨h.cpu, h.timer, h.serial, h.ppu, h.dma, h.cart,
      ⟨hm.vram, ⟨Cells.write_wf _ _ _ hm.wram.1, Cells.write_within _ _ _ _ ho hm.wram.2⟩, hm.oam, hm.hram⟩⟩
  · intro off ho
    exact ⟨h.cpu, h.timer, h.serial, h.ppu, h.dma, h.cart,
      ⟨hm.vram, hm.wram, ⟨Cells.write_wf _ _ _ hm.oam.1, Cells.write_within _ _ _ _ ho hm.oam.2⟩, hm.hram⟩⟩
  · intro off ho
    exact ⟨h.cpu, h.timer, h.serial, h.ppu, h.dma, h.cart,
      ⟨hm.vram, hm.wram, hm.oam, ⟨Cells.write_wf _ _ _ hm.hram.1, Cells.write_within _ _ _ _ ho hm.hram.2⟩⟩⟩
  · intro r
    exact State.writeIo_inv r v h
  · exact ⟨h.cpu, h.timer, h.serial, h.ppu, h.dma, h.cart, ⟨hm.vram, hm.wram, hm.oam, hm.hram⟩⟩

/-- The three means by which an instruction changes the state keep the invariant. -/
theorem keeps_inv : Keeps State.Inv where
  cpu s c h hf := ⟨by rcases hf with hf | hf
                      · exact hf.trans h.cpu
                      · exact hf,
    h.timer, h.serial, h.ppu, h.dma, h.cart,
    ⟨h.mem.vram, h.mem.wram, h.mem.oam, h.mem.hram⟩⟩
  write s a v h := State.memWrite_inv a v h
  stop s h := ⟨h.cpu, Timer.resetCounter_inv h.timer, h.serial, h.ppu, h.dma, h.cart,
    ⟨h.mem.vram, h.mem.wram, h.mem.oam, h.mem.hram⟩⟩

/-! ## One T-cycle -/

theorem State.selectSprites_le (s : State) (ly : Nat) : (s.selectSprites ly).length ≤ 10 := by
  simp [State.selectSprites, List.length_take]

theorem State.selectSprites_lt (s : State) (ly : Nat) : ∀ k ∈ s.selectSprites ly, k < 40 := by
  intro k hk
  have := List.mem_of_mem_take hk
  simp at this
  exact this.1

theorem State.timerTick_inv {s : State} (h : s.Inv) : s.timerTick.Inv := by
  have ht := Timer.tick_inv h.timer
  unfold State.timerTick
  exact ⟨by simpa using h.cpu, by simpa using ht, by simpa using h.serial, by simpa using h.ppu,
    by simpa using h.dma, by simpa using h.cart,
    ⟨by simpa using h.mem.vram, by simpa using h.mem.wram, by simpa using h.mem.oam,
      by simpa using h.mem.hram⟩⟩

/-- The position after one dot, with the mode still to be set by the events there. -/
theorem Ppu.advanceDot_pos {p : Ppu} (h : p.PreInv) (hon : p.lcdOn = true) :
    p.advanceDot.ly.toNat < 154 ∧ p.advanceDot.dot < 456 ∧ p.advanceDot.windowLine < 256 ∧
      p.advanceDot.coincidence = decide (p.advanceDot.ly = p.advanceDot.lyc) ∧
      p.advanceDot.lcdOn = true ∧
      (p.advanceDot.dot ≠ 0 → p.advanceDot.dot ≠ 80 → p.advanceDot.dot ≠ 80 + Config.t3 →
        p.advanceDot.mode = scheduledMode p.advanceDot.ly.toNat p.advanceDot.dot) ∧
      (144 < p.advanceDot.ly.toNat ∨ (144 = p.advanceDot.ly.toNat ∧ p.advanceDot.dot ≠ 0) →
        p.advanceDot.mode = .vblank) := by
  have hl := h.ly_lt
  have hd := h.dot_lt
  have hm := h.mode_on hon
  unfold Ppu.advanceDot
  split
  · rename_i hdot
    have hly : (BitVec.ofNat 8 ((p.ly.toNat + 1) % 154)).toNat = (p.ly.toNat + 1) % 154 := by
      rw [BitVec.toNat_ofNat]
      omega
    refine ⟨?_, (by decide : 0 < 456), ?_, rfl, hon, fun hne => absurd rfl hne, fun hv => ?_⟩
    · simp only [Ppu.compareLy, hly]
      omega
    · simp only [Ppu.compareLy]
      split
      · decide
      · exact h.window_lt
    · simp only [Ppu.compareLy, hly] at hv ⊢
      rw [hm]
      unfold scheduledMode
      rw [if_pos (by omega)]
  · refine ⟨hl, by simp only; omega, h.window_lt, h.coincidence_eq, hon, fun h0 h80 h252 => ?_,
      fun hv => ?_⟩
    · simp only [ne_eq, Config.t3] at h0 h80 h252
      rw [hm]
      show scheduledMode p.ly.toNat p.dot = scheduledMode p.ly.toNat (p.dot + 1)
      unfold scheduledMode Config.t3
      refine if_congr Iff.rfl rfl (if_congr ⟨fun _ => by omega, fun _ => by omega⟩ rfl
        (if_congr ⟨fun _ => by omega, fun _ => by omega⟩ rfl rfl))
    · simp only at hv
      rw [hm]
      unfold scheduledMode
      rw [if_pos (by omega)]

theorem Ppu.advanceDot_rest (p : Ppu) :
    p.advanceDot.lineSprites = p.lineSprites ∧ p.advanceDot.fbIndex = p.fbIndex ∧
      p.advanceDot.fbShade = p.fbShade := by
  unfold Ppu.advanceDot
  split <;> exact ⟨rfl, rfl, rfl⟩

@[simp] theorem State.ppuEvents_other (s : State) :
    s.ppuEvents.cpu = s.cpu ∧ s.ppuEvents.timer = s.timer ∧ s.ppuEvents.joypad = s.joypad ∧
      s.ppuEvents.serial = s.serial ∧ s.ppuEvents.dma = s.dma ∧ s.ppuEvents.cart = s.cart ∧
      s.ppuEvents.vram = s.vram ∧ s.ppuEvents.wram = s.wram ∧ s.ppuEvents.oam = s.oam ∧
      s.ppuEvents.hram = s.hram ∧ s.ppuEvents.irq.ie = s.irq.ie := by
  unfold State.ppuEvents
  dsimp only
  repeat' split
  all_goals simp [State.renderLine]

/-- The events at the position just reached complete the invariant but for the STAT line. -/
theorem State.ppuEvents_pre {s : State} (hp : s.ppu.PreInv) (hon : s.ppu.lcdOn = true) :
    (({ s with ppu := s.ppu.advanceDot } : State).ppuEvents).ppu.PreInv := by
  obtain ⟨hly, hdot, hw, hco, hon', hmid, hvb⟩ := Ppu.advanceDot_pos hp hon
  obtain ⟨hsp, hfi, hfs⟩ := Ppu.advanceDot_rest s.ppu
  have hsl : s.ppu.advanceDot.lineSprites.length ≤ 10 := hsp ▸ hp.sprites_le
  have hsm : ∀ k ∈ s.ppu.advanceDot.lineSprites, k < 40 := hsp ▸ hp.sprites_lt
  have hiw := hfi ▸ hp.index_wf
  have hsw := hfs ▸ hp.shade_wf
  generalize s.ppu.advanceDot = q at *
  have noff : ∀ {A : Prop}, q.lcdOn = false → A := fun hoff =>
    absurd (hoff.symm.trans hon') Bool.false_ne_true
  unfold State.ppuEvents
  dsimp only
  split
  · rename_i hv
    split
    · rename_i hd
      refine ⟨hly, hdot, hw, hco, hsl, hsm, fun _ => ?_, noff, hiw, hsw⟩
      simp only [scheduledMode, hd]
      rw [if_neg (by omega), if_pos (by omega)]
    · rename_i hd
      have hlen : ∀ {β : Type} (f : Nat → β), ((List.range 160).map f).length = 160 := by simp
      refine ⟨hly, hdot, ?_, hco, State.selectSprites_le _ _, State.selectSprites_lt _ _, fun _ => ?_,
        noff, ⟨?_, ?_⟩, ⟨?_, ?_⟩⟩
      · simp only [State.renderLine]
        split
        · exact Nat.mod_lt _ (by decide)
        · exact hw
      · simp only [State.renderLine, scheduledMode, hd, Config.t3]
        rw [if_neg (by omega), if_neg (by omega), if_pos (by omega)]
      · exact Cells.writeRow_wf _ _ _ hiw.1
      · refine Cells.writeRow_within _ _ _ _ ?_ hiw.2
        simp only [List.length_map, List.length_range]
        omega
      · exact Cells.writeRow_wf _ _ _ hsw.1
      · refine Cells.writeRow_within _ _ _ _ ?_ hsw.2
        simp only [List.length_map, List.length_range]
        omega
    · rename_i h0 h80
      split
      · rename_i hd
        refine ⟨hly, hdot, hw, hco, hsl, hsm, fun _ => ?_, noff, hiw, hsw⟩
        simp only [scheduledMode, hd, Config.t3]
        rw [if_neg (by omega), if_neg (by omega), if_neg (by omega)]
      · rename_i hd
        exact ⟨hly, hdot, hw, hco, hsl, hsm, fun _ => hmid h0 h80 hd, noff, hiw, hsw⟩
  · rename_i hv
    split
    · refine ⟨hly, hdot, hw, hco, hsl, hsm, fun _ => ?_, noff, hiw, hsw⟩
      show Mode.vblank = scheduledMode q.ly.toNat q.dot
      simp only [scheduledMode]
      rw [if_pos (by omega)]
    · rename_i h144
      refine ⟨hly, hdot, hw, hco, hsl, hsm, fun _ => ?_, noff, hiw, hsw⟩
      show q.mode = scheduledMode q.ly.toNat q.dot
      rw [hvb (by omega), scheduledMode, if_pos (by omega)]

theorem State.ppuTick_inv {s : State} (h : s.Inv) : s.ppuTick.Inv := by
  unfold State.ppuTick
  split
  · rename_i hon
    have hpre := State.ppuEvents_pre h.ppu.pre hon
    obtain ⟨h1, h2, h3, h4, h5, h6, h7, h8, h9, h10, -⟩ :=
      State.ppuEvents_other { s with ppu := s.ppu.advanceDot }
    exact ⟨by simpa [h1] using h.cpu, by simpa [h2] using h.timer, by simpa [h4] using h.serial,
      by simpa using hpre.latchStat, by simpa [h5] using h.dma, by simpa [h6] using h.cart,
      ⟨by simpa [h7] using h.mem.vram, by simpa [h8] using h.mem.wram, by simpa [h9] using h.mem.oam,
        by simpa [h10] using h.mem.hram⟩⟩
  · exact h

/-- One DMA T-cycle touches the engine and OAM only. -/
theorem State.dmaTick_other (s : State) :
    s.dmaTick.cpu = s.cpu ∧ s.dmaTick.irq = s.irq ∧ s.dmaTick.timer = s.timer ∧
      s.dmaTick.joypad = s.joypad ∧ s.dmaTick.serial = s.serial ∧ s.dmaTick.ppu = s.ppu ∧
      s.dmaTick.cart = s.cart ∧ s.dmaTick.vram = s.vram ∧ s.dmaTick.wram = s.wram ∧
      s.dmaTick.hram = s.hram := by
  unfold State.dmaTick
  dsimp only
  repeat' split
  all_goals simp

theorem State.dmaTick_oam {s : State} (hd : s.dma.Inv)
    (ho : s.oam.wf = true ∧ s.oam.within 160 = true) :
    s.dmaTick.oam.wf = true ∧ s.dmaTick.oam.within 160 = true := by
  unfold State.dmaTick
  split
  · rename_i ha
    have := hd.2 ha
    dsimp only
    split
    · exact ⟨Cells.write_wf _ _ _ ho.1, Cells.write_within _ _ _ _ (by omega) ho.2⟩
    · exact ho
  · exact ho

theorem State.dmaTick_keeps {s : State} (h : s.Inv) : s.dmaTick.Inv := by
  obtain ⟨h1, _, h3, _, h5, h6, h7, h8, h9, h10⟩ := State.dmaTick_other s
  exact ⟨h1 ▸ h.cpu, h3 ▸ h.timer, h5 ▸ h.serial, h6 ▸ h.ppu, State.dmaTick_inv h.dma, h7 ▸ h.cart,
    ⟨h8 ▸ h.mem.vram, h9 ▸ h.mem.wram, State.dmaTick_oam h.dma h.mem.oam, h10 ▸ h.mem.hram⟩⟩

/-- One T-cycle keeps the invariant. -/
theorem State.tick_inv {s : State} (h : s.Inv) : s.tick.Inv :=
  State.dmaTick_keeps (State.ppuTick_inv (State.timerTick_inv h))

/-- Any number of T-cycles keep the invariant. -/
theorem State.advance_inv (n : Nat) {s : State} (h : s.Inv) : (State.advance n s).Inv := by
  induction n generalizing s with
  | zero => exact h
  | succ n ih => exact ih (State.tick_inv h)

end Sys2Proof.Machine
end

