-- ==== Sys2Proof/Laws/Clock.lean ====
section
/-! SUPPORT. One T-cycle of the peripherals, part by part: what it leaves alone, and what the timer, the
PPU and the DMA engine each do in it. -/

namespace Sys2Proof.Machine

/-- A dot touches the PPU and IF only. -/
theorem State.ppuTick_other (s : State) :
    s.ppuTick.cpu = s.cpu ∧ s.ppuTick.timer = s.timer ∧ s.ppuTick.joypad = s.joypad ∧
      s.ppuTick.serial = s.serial ∧ s.ppuTick.dma = s.dma ∧ s.ppuTick.cart = s.cart ∧
      s.ppuTick.vram = s.vram ∧ s.ppuTick.wram = s.wram ∧ s.ppuTick.oam = s.oam ∧
      s.ppuTick.hram = s.hram ∧ s.ppuTick.irq.ie = s.irq.ie := by
  unfold State.ppuTick
  split <;> simp

/-- What no T-cycle touches. -/
theorem State.tick_other (s : State) :
    s.tick.cpu = s.cpu ∧ s.tick.irq.ie = s.irq.ie ∧ s.tick.joypad = s.joypad ∧
      s.tick.serial = s.serial ∧ s.tick.cart = s.cart ∧ s.tick.vram = s.vram ∧
      s.tick.wram = s.wram ∧ s.tick.hram = s.hram := by
  obtain ⟨a1, a2, -, a4, a5, -, a7, a8, a9, a10⟩ := State.dmaTick_other s.timerTick.ppuTick
  obtain ⟨b1, -, b3, b4, -, b6, b7, b8, -, b10, b11⟩ := State.ppuTick_other s.timerTick
  unfold State.tick
  rw [a1, a2, a4, a5, a7, a8, a9, a10, b1, b3, b4, b6, b7, b8, b10, b11]
  simp [State.timerTick]

/-- The timer in a T-cycle. -/
@[simp] theorem State.tick_timer (s : State) : s.tick.timer = s.timer.tick := by
  rw [State.tick, (State.dmaTick_other _).2.2.1, (State.ppuTick_other _).2.1]
  simp [State.timerTick]

/-- The timer in any number of T-cycles. -/
theorem State.advance_timer (n : Nat) (s : State) : (State.advance n s).timer = Timer.tick^[n] s.timer := by
  induction n generalizing s with
  | zero => rfl
  | succ n ih => rw [State.advance, ih, State.tick_timer, Function.iterate_succ_apply]

/-- What no number of T-cycles touches. -/
theorem State.advance_other (n : Nat) (s : State) :
    (State.advance n s).cpu = s.cpu ∧ (State.advance n s).irq.ie = s.irq.ie ∧
      (State.advance n s).joypad = s.joypad ∧ (State.advance n s).serial = s.serial ∧
      (State.advance n s).cart = s.cart ∧ (State.advance n s).vram = s.vram ∧
      (State.advance n s).wram = s.wram ∧ (State.advance n s).hram = s.hram := by
  induction n generalizing s with
  | zero => simp [State.advance]
  | succ n ih =>
    obtain ⟨h1, h2, h3, h4, h5, h6, h7, h8⟩ := State.tick_other s
    have h := ih s.tick
    rw [h1, h2, h3, h4, h5, h6, h7, h8] at h
    exact h

theorem State.advance_add (m n : Nat) (s : State) :
    State.advance (m + n) s = State.advance n (State.advance m s) := by
  induction m generalizing s with
  | zero => simp [State.advance]
  | succ m ih => rw [Nat.succ_add, State.advance, State.advance, ih]

/-- The PPU in a T-cycle: the dot, then its events, then the STAT line. -/
theorem State.tick_ppu (s : State) : s.tick.ppu = s.timerTick.ppuTick.ppu := by
  rw [State.tick, (State.dmaTick_other _).2.2.2.2.2.1]

/-- What the PPU does on arriving at a dot depends neither on the timer nor on IF and IE. -/
theorem State.ppuEvents_ppu_congr (s : State) (i : Irq) (t : Timer) :
    ({ s with irq := i, timer := t } : State).ppuEvents.ppu = s.ppuEvents.ppu := by
  unfold State.ppuEvents
  simp only
  split
  · split
    · rfl
    · rfl
    · split <;> rfl
  · split <;> rfl

/-- What the PPU does in a dot depends neither on the timer nor on IF and IE. -/
theorem State.ppuTick_ppu_congr (s : State) (i : Irq) (t : Timer) :
    ({ s with irq := i, timer := t } : State).ppuTick.ppu = s.ppuTick.ppu := by
  unfold State.ppuTick
  by_cases h : s.ppu.lcdOn = true
  · simp only [h, if_true, State.updateStat_ppu]
    exact congrArg Ppu.latchStat (State.ppuEvents_ppu_congr { s with ppu := s.ppu.advanceDot } i t)
  · simp [h]

/-- The PPU in a T-cycle is the PPU in a dot. -/
theorem State.tick_ppu_eq (s : State) : s.tick.ppu = s.ppuTick.ppu := by
  have h : s.timerTick = { s with irq := s.timerTick.irq, timer := s.timerTick.timer } := by
    unfold State.timerTick State.requestIf
    split <;> rfl
  rw [State.tick_ppu, h, State.ppuTick_ppu_congr]

/-- The dots that render nothing leave both planes, the selected sprites and the window line. -/
theorem State.ppuEvents_quiet (s : State) (h : s.ppu.dot = 80 → ¬s.ppu.ly.toNat < 144) :
    s.ppuEvents.ppu.fbIndex = s.ppu.fbIndex ∧ s.ppuEvents.ppu.fbShade = s.ppu.fbShade ∧
      s.ppuEvents.ppu.lineSprites = s.ppu.lineSprites ∧
      s.ppuEvents.ppu.windowLine = s.ppu.windowLine := by
  unfold State.ppuEvents
  simp only
  split
  · rename_i hl
    split
    · simp
    · rename_i hd
      exact absurd hl (h hd)
    · split <;> simp
  · split <;> simp

/-- The requests of a T-cycle are the timer's and the PPU's. -/
theorem State.tick_irq (s : State) : s.tick.irq = s.timerTick.ppuTick.irq := by
  rw [State.tick, (State.dmaTick_other _).2.1]

/-- The DMA engine and OAM in a T-cycle. -/
theorem State.tick_dma (s : State) :
    s.tick.dma = s.timerTick.ppuTick.dmaTick.dma ∧ s.timerTick.ppuTick.dma = s.dma ∧
      s.timerTick.ppuTick.oam = s.oam := by
  refine ⟨rfl, ?_, ?_⟩
  · rw [(State.ppuTick_other _).2.2.2.2.1]
    simp [State.timerTick]
  · rw [(State.ppuTick_other _).2.2.2.2.2.2.2.2.1]
    simp [State.timerTick]

end Sys2Proof.Machine
end

