-- ==== Sys2Proof/Laws/Step.lean ====
section
/-! SUPPORT. The fetch, the CPU step and the machine step: what each of them can do. -/

namespace Sys2Proof.Machine

/-- Every opcode's length is 1, 2 or 3. -/
theorem instrLength_cases (b : Byte) : instrLength b = 1 ∨ instrLength b = 2 ∨ instrLength b = 3 := by
  revert b
  decide +kernel

/-- The fetch without the HALT bug: the instruction's bytes at PC, and PC past them. -/
theorem State.fetchInstr_eq {s : State} (h : s.cpu.haltBug = false) :
    let n := instrLength (s.memRead s.cpu.pc)
    s.fetchInstr =
      (decodeBytes (s.memRead s.cpu.pc) (if 2 ≤ n then s.memRead (s.cpu.pc + 1#16) else 0)
        (if 3 ≤ n then s.memRead (s.cpu.pc + 2#16) else 0), s.fetched n) := by
  have e2 : s.cpu.pc + 1#16 + 1#16 = s.cpu.pc + 2#16 := by rw [BitVec.add_assoc]; rfl
  have e3 : s.cpu.pc + 2#16 + 1#16 = s.cpu.pc + 3#16 := by rw [BitVec.add_assoc]; rfl
  have f1 : ({ s with cpu.opAddr := s.cpu.pc } : State).fetch8 =
      (s.memRead s.cpu.pc, s.fetched 1) := by
    unfold State.fetch8
    rw [State.memRead_withCpu, if_neg (ne_true_of_eq_false h)]
    rfl
  have f2 : (s.fetched 1).fetch8 = (s.memRead (s.cpu.pc + 1#16), s.fetched 2) := by
    unfold State.fetch8
    rw [State.fetched, State.memRead_withCpu, if_neg (ne_true_of_eq_false h)]
    simp only [State.setPc]
    rw [show s.cpu.pc + BitVec.ofNat 16 1 + 1#16 = s.cpu.pc + 2#16 from e2]
    rfl
  have f3 : (s.fetched 2).fetch8 = (s.memRead (s.cpu.pc + 2#16), s.fetched 3) := by
    unfold State.fetch8
    rw [State.fetched, State.memRead_withCpu, if_neg (ne_true_of_eq_false h)]
    simp only [State.setPc]
    rw [show s.cpu.pc + BitVec.ofNat 16 2 + 1#16 = s.cpu.pc + 3#16 from e3]
    rfl
  intro n
  unfold State.fetchInstr
  simp only [f1]
  rcases instrLength_cases (s.memRead s.cpu.pc) with hb | hb | hb <;> simp only [hb, n]
  · rfl
  · rw [f2]; rfl
  · rw [f2]; dsimp only; rw [f3]; rfl

/-- A state whose CPU step executes an instruction does so. -/
theorem State.Runs.cpuStep_eq {s : State} (h : s.Runs) : s.cpuStep = s.runInstr := by
  have hs : ({ s with cpu.stopped := false } : State) = s := by
    obtain ⟨_, h, _, _⟩ := h
    cases s with | mk c => cases c; simp_all
  have hh : ({ s with cpu.halted := false } : State) = s := by
    obtain ⟨_, _, h, _⟩ := h
    cases s with | mk c => cases c; simp_all
  unfold State.cpuStep
  rw [h.fault]
  simp only [h.stopped, Bool.false_and, Bool.false_eq_true, if_false]
  rw [hs]
  unfold State.haltedOrAwake
  simp only [h.halted, Bool.false_and, Bool.false_eq_true, if_false]
  rw [hh]
  unfold State.serviceOrRun
  rw [if_neg]
  rcases h.noService with h | h <;> simp [h]

/-- A step that goes on is the CPU step and then the peripherals by its cost. -/
theorem step_next {s t : State} (h : step s = .next t) :
    ∃ n, s.cpuStep.2 = .ok n ∧ t = State.advance n s.cpuStep.1 := by
  unfold step State.machineStep at h
  split at h
  · rename_i s' n he
    rw [he]
    cases h
    exact ⟨n, rfl, rfl⟩
  · rename_i r hr
    cases hc : s.cpuStep.2 with
    | ok n => exact (hr s.cpuStep.1 n (Prod.ext rfl hc)).elim
    | fault f => rw [hc] at h; cases h
    | refused r => rw [hc] at h; cases h

/-- The other way round. -/
theorem step_of_cpuStep {s s' : State} {n : Nat} (h : s.cpuStep = (s', .ok n)) :
    step s = .next (State.advance n s') := by
  unfold step State.machineStep
  rw [h]
  rfl

/-- What a CPU step keeps: whatever instructions keep, if a write of IF keeps it too. -/
theorem cpuStep_keeps {P : State → Prop} (k : Keeps P)
    (hirq : ∀ s x, P s → P { s with irq.ifl := x }) {s : State} (h : P s) : P s.cpuStep.1 := by
  have hfetch : ∀ s : State, P s → P s.fetch8.2 := by
    intro s h
    unfold State.fetch8
    dsimp only
    split <;> exact k.ofCpu h rfl rfl
  have hrun : ∀ s : State, P s → P s.runInstr.1 := by
    intro s h
    have h0 : P ({ s with cpu.opAddr := s.cpu.pc } : State) := k.ofCpu h rfl rfl
    have hi : P s.fetchInstr.2 := by
      unfold State.fetchInstr
      dsimp only
      split
      · exact hfetch _ h0
      · exact hfetch _ (hfetch _ h0)
      · exact hfetch _ (hfetch _ (hfetch _ h0))
    obtain ⟨t, ht, hp⟩ := k.exec hi s.fetchInstr.1
    unfold State.runInstr
    rw [ht]
    dsimp only
    split
    · exact hp
    · unfold State.applyEi
      dsimp only
      split
      · exact k.ofCpu hp rfl rfl
      · exact hp
  have hserve : ∀ s : State, P s → P s.serviceInterrupt := by
    intro s h
    refine k.charge (k.setPc (k.push16 ?_ _) _) _
    exact hirq _ _ (k.ofCpu (t := { s with cpu.ime := false, cpu.eiPending := false, cpu.haltBug := false }) h rfl rfl)
  unfold State.cpuStep
  split
  · exact h
  split
  · exact k.charge h _
  have h1 : P ({ s with cpu.stopped := false } : State) := k.ofCpu h rfl rfl
  unfold State.haltedOrAwake
  split
  · exact k.charge h1 _
  have h2 := k.ofCpu (t := { s with cpu.stopped := false, cpu.halted := false }) h1 rfl rfl
  unfold State.serviceOrRun
  split
  · exact hserve _ h2
  · exact hrun _ h2

end Sys2Proof.Machine
end

