-- ==== Sys2Proof/Laws/EiLatch.lean ====
section
/-! SUPPORT. The EI latch and IME. The latch is seen by EI, DI and the delayed enable only: every other
part of a step but the interrupt service does the same whatever it holds, and leaves it as it is; the
service clears it. Of the instructions only DI and RETI write IME. -/

namespace Sys2Proof.Machine

/-- A result, with the EI latch of its state replaced. -/
def Result.withEi (r : Result) (b : Bool) : Result :=
  match r with
  | .next t => .next (t.withEi b)
  | .fault f => .fault f
  | .refused r => .refused r

@[simp] theorem State.withEi_eiPending (s : State) (b : Bool) : (s.withEi b).cpu.eiPending = b := rfl

@[simp] theorem State.withEi_self (s : State) : s.withEi s.cpu.eiPending = s := rfl

@[simp] theorem State.withEi_withEi (s : State) (b c : Bool) : (s.withEi b).withEi c = s.withEi c := rfl

/-! ## The operations -/

theorem State.withEi_memWrite (s : State) (b : Bool) (a : Word) (v : Byte) :
    (s.withEi b).memWrite a v = (s.memWrite a v).withEi b := by
  unfold State.withEi
  rw [State.memWrite_withCpu, State.memWrite_cpu]

theorem State.withEi_memRead (s : State) (b : Bool) (a : Word) : (s.withEi b).memRead a = s.memRead a :=
  State.memRead_withCpu ..

theorem State.withEi_memWrite16 (s : State) (b : Bool) (a v : Word) :
    (s.withEi b).memWrite16 a v = (s.memWrite16 a v).withEi b := by
  unfold State.memWrite16
  rw [State.withEi_memWrite, State.withEi_memWrite]

theorem State.withEi_pushByte (s : State) (b : Bool) (v : Byte) :
    (s.withEi b).pushByte v = (s.pushByte v).withEi b :=
  State.withEi_memWrite (s.setSp (s.cpu.sp - 1#16)) b _ _

theorem State.withEi_push16 (s : State) (b : Bool) (v : Word) :
    (s.withEi b).push16 v = (s.push16 v).withEi b := by
  unfold State.push16
  rw [State.withEi_pushByte, State.withEi_pushByte]

theorem State.withEi_writeR8 (s : State) (b : Bool) (k : R8) (v : Byte) :
    (s.withEi b).writeR8 k v = (s.writeR8 k v).withEi b := by
  cases k with
  | reg r => cases r <;> rfl
  | atHL => exact State.withEi_memWrite ..

theorem State.withEi_readR8 (s : State) (b : Bool) (k : R8) : (s.withEi b).readR8 k = s.readR8 k := by
  cases k with
  | reg r => cases r <;> rfl
  | atHL => exact State.withEi_memRead ..

/-- The fetch neither sees the latch nor changes it. -/
theorem State.withEi_fetchInstr (s : State) (b : Bool) :
    (s.withEi b).fetchInstr = (s.fetchInstr.1, s.fetchInstr.2.withEi b) := by
  have hf (s : State) : (s.withEi b).fetch8 = (s.fetch8.1, s.fetch8.2.withEi b) := by
    unfold State.fetch8
    rw [State.withEi_memRead]
    dsimp only
    rw [show (s.withEi b).cpu.haltBug = s.cpu.haltBug from rfl]
    split <;> rfl
  unfold State.fetchInstr
  rw [show ({ s.withEi b with cpu.opAddr := (s.withEi b).cpu.pc } : State) =
    ({ s with cpu.opAddr := s.cpu.pc } : State).withEi b from rfl]
  simp only [hf]
  split <;> rfl

/-! ## The instructions -/

section shapes
variable {s : State} {b : Bool}

theorem withEi_storeReg {r : Reg8} : storeReg r (s.withEi b) = Result.withEi (storeReg r s) b := by
  unfold storeReg
  rw [State.withEi_memWrite]
  cases r <;> rfl

theorem withEi_storeImm {n : Byte} : storeImm n (s.withEi b) = Result.withEi (storeImm n s) b := by
  unfold storeImm
  rw [State.withEi_memWrite]
  rfl

theorem withEi_storeA {a : Word} {n : Nat} : storeA a n (s.withEi b) = Result.withEi (storeA a n s) b := by
  unfold storeA
  rw [State.withEi_memWrite]
  rfl

theorem withEi_storeAStep {v : Word} : storeAStep v (s.withEi b) = Result.withEi (storeAStep v s) b := by
  unfold storeAStep
  rw [State.withEi_memWrite]
  rfl

theorem withEi_storeSp {a : Word} : storeSp a (s.withEi b) = Result.withEi (storeSp a s) b := by
  unfold storeSp
  rw [State.withEi_memWrite16]
  rfl

theorem withEi_pushPair {rr : StackRR} : pushPair rr (s.withEi b) = Result.withEi (pushPair rr s) b := by
  unfold pushPair
  rw [State.withEi_push16]
  cases rr <;> rfl

theorem withEi_call {a : Word} : call a (s.withEi b) = Result.withEi (call a s) b := by
  unfold call
  rw [State.withEi_push16]
  rfl

theorem withEi_restart {a : Word} : restart a (s.withEi b) = Result.withEi (restart a s) b := by
  unfold restart
  rw [State.withEi_push16]
  rfl

theorem withEi_incR8 {k : R8} : incR8 k (s.withEi b) = Result.withEi (incR8 k s) b := by
  unfold incR8
  rw [State.withEi_readR8]
  dsimp only
  rw [State.withEi_writeR8]
  rfl

theorem withEi_decR8 {k : R8} : decR8 k (s.withEi b) = Result.withEi (decR8 k s) b := by
  unfold decR8
  rw [State.withEi_readR8]
  dsimp only
  rw [State.withEi_writeR8]
  rfl

theorem withEi_rotR8 {op : Rotate} {k : R8} : rotR8 op k (s.withEi b) = Result.withEi (rotR8 op k s) b := by
  unfold rotR8
  rw [State.withEi_readR8]
  dsimp only
  rw [State.withEi_writeR8]
  rfl

theorem withEi_bitBit {n : Nat} {k : R8} : bitBit n k (s.withEi b) = Result.withEi (bitBit n k s) b := by
  unfold bitBit
  rw [State.withEi_readR8]
  rfl

theorem withEi_resBit {n : Nat} {k : R8} : resBit n k (s.withEi b) = Result.withEi (resBit n k s) b := by
  unfold resBit
  rw [State.withEi_readR8, State.withEi_writeR8]
  rfl

theorem withEi_setBit {n : Nat} {k : R8} : setBit n k (s.withEi b) = Result.withEi (setBit n k s) b := by
  unfold setBit
  rw [State.withEi_readR8, State.withEi_writeR8]
  rfl

theorem withEi_cbTable {op2 : Byte} : cbTable op2 (s.withEi b) = Result.withEi (cbTable op2 s) b := by
  unfold cbTable
  dsimp only
  split
  · exact withEi_rotR8
  · exact withEi_bitBit
  · exact withEi_resBit
  · exact withEi_setBit

theorem State.withEi_cond {cc : Cond} : (s.withEi b).cond cc = s.cond cc := by cases cc <;> rfl

theorem withEi_jumpIf {cc : Cond} {a : Word} :
    jumpIf cc a (s.withEi b) = Result.withEi (jumpIf cc a s) b := by
  unfold jumpIf
  rw [State.withEi_cond]
  split <;> rfl

theorem withEi_jumpRelativeIf {cc : Cond} {e : Byte} :
    jumpRelativeIf cc e (s.withEi b) = Result.withEi (jumpRelativeIf cc e s) b := by
  unfold jumpRelativeIf
  rw [State.withEi_cond]
  split <;> rfl

theorem withEi_callIf {cc : Cond} {a : Word} :
    callIf cc a (s.withEi b) = Result.withEi (callIf cc a s) b := by
  unfold callIf
  rw [State.withEi_cond, State.withEi_push16]
  split <;> rfl

theorem withEi_retIf {cc : Cond} : retIf cc (s.withEi b) = Result.withEi (retIf cc s) b := by
  unfold retIf
  rw [State.withEi_cond]
  split <;> rfl

theorem withEi_haltCpu : haltCpu (s.withEi b) = Result.withEi (haltCpu s) b := by
  unfold haltCpu
  rw [show (s.withEi b).pending = s.pending from rfl, show (s.withEi b).cpu.ime = s.cpu.ime from rfl]
  split <;> rfl

end shapes

/-- No instruction but EI and DI sees the latch or changes it. -/
theorem exec_withEi {i : Instr} (s : State) (b : Bool) (hei : i ≠ .ei) (hdi : i ≠ .di) :
    exec i (s.withEi b) = Result.withEi (exec i s) b := by
  cases i
  case ei => exact absurd rfl hei
  case di => exact absurd rfl hdi
  case ld_ata16_SP => exact withEi_storeSp
  case jr_NZ_e8 => exact withEi_jumpRelativeIf
  case jr_Z_e8 => exact withEi_jumpRelativeIf
  case jr_NC_e8 => exact withEi_jumpRelativeIf
  case ld_atHL_d8 => exact withEi_storeImm
  case jr_C_e8 => exact withEi_jumpRelativeIf
  case jp_NZ_a16 => exact withEi_jumpIf
  case call_NZ_a16 => exact withEi_callIf
  case jp_Z_a16 => exact withEi_jumpIf
  case prefix_CB => exact withEi_cbTable
  case call_Z_a16 => exact withEi_callIf
  case call_a16 => exact withEi_call
  case jp_NC_a16 => exact withEi_jumpIf
  case call_NC_a16 => exact withEi_callIf
  case jp_C_a16 => exact withEi_jumpIf
  case call_C_a16 => exact withEi_callIf
  case ldh_ata8_A => exact withEi_storeA
  case ld_ata16_A => exact withEi_storeA
  case ld_atBC_A => exact withEi_storeA
  case ld_atDE_A => exact withEi_storeA
  case ld_atHLi_A => exact withEi_storeAStep
  case ld_atHLd_A => exact withEi_storeAStep
  case inc_atHL => exact withEi_incR8
  case dec_atHL => exact withEi_decR8
  case ld_atHL_B => exact withEi_storeReg
  case ld_atHL_C => exact withEi_storeReg
  case ld_atHL_D => exact withEi_storeReg
  case ld_atHL_E => exact withEi_storeReg
  case ld_atHL_H => exact withEi_storeReg
  case ld_atHL_L => exact withEi_storeReg
  case halt => exact withEi_haltCpu
  case ld_atHL_A => exact withEi_storeReg
  case ret_NZ => exact withEi_retIf
  case push_BC => exact withEi_pushPair
  case rst_00H => exact withEi_restart
  case ret_Z => exact withEi_retIf
  case rst_08H => exact withEi_restart
  case ret_NC => exact withEi_retIf
  case push_DE => exact withEi_pushPair
  case rst_10H => exact withEi_restart
  case ret_C => exact withEi_retIf
  case rst_18H => exact withEi_restart
  case ld_atC_A => exact withEi_storeA
  case push_HL => exact withEi_pushPair
  case rst_20H => exact withEi_restart
  case rst_28H => exact withEi_restart
  case push_AF => exact withEi_pushPair
  case rst_30H => exact withEi_restart
  case rst_38H => exact withEi_restart
  case rlc_atHL => exact withEi_rotR8
  case rrc_atHL => exact withEi_rotR8
  case rl_atHL => exact withEi_rotR8
  case rr_atHL => exact withEi_rotR8
  case sla_atHL => exact withEi_rotR8
  case sra_atHL => exact withEi_rotR8
  case swap_atHL => exact withEi_rotR8
  case srl_atHL => exact withEi_rotR8
  case res_0_atHL => exact withEi_resBit
  case res_1_atHL => exact withEi_resBit
  case res_2_atHL => exact withEi_resBit
  case res_3_atHL => exact withEi_resBit
  case res_4_atHL => exact withEi_resBit
  case res_5_atHL => exact withEi_resBit
  case res_6_atHL => exact withEi_resBit
  case res_7_atHL => exact withEi_resBit
  case set_0_atHL => exact withEi_setBit
  case set_1_atHL => exact withEi_setBit
  case set_2_atHL => exact withEi_setBit
  case set_3_atHL => exact withEi_setBit
  case set_4_atHL => exact withEi_setBit
  case set_5_atHL => exact withEi_setBit
  case set_6_atHL => exact withEi_setBit
  case set_7_atHL => exact withEi_setBit
  all_goals rfl

/-! ## IME -/

/-- IME in the state of a result. -/
def Result.ime? : Result → Option Bool
  | .next t => some t.cpu.ime
  | .fault _ => none
  | .refused _ => none

section shapes
variable {s : State}

@[simp] theorem State.writeR8_ime {k : R8} {v : Byte} : (s.writeR8 k v).cpu.ime = s.cpu.ime := by
  cases k with
  | reg r => cases r <;> rfl
  | atHL => simp [State.writeR8]

theorem ime_storeReg {r : Reg8} : Result.ime? (storeReg r s) = some s.cpu.ime := by
  simp [storeReg, Result.ime?]

theorem ime_storeImm {n : Byte} : Result.ime? (storeImm n s) = some s.cpu.ime := by
  simp [storeImm, Result.ime?]

theorem ime_storeA {a : Word} {n : Nat} : Result.ime? (storeA a n s) = some s.cpu.ime := by
  simp [storeA, Result.ime?]

theorem ime_storeAStep {v : Word} : Result.ime? (storeAStep v s) = some s.cpu.ime := by
  simp [storeAStep, Result.ime?]

theorem ime_storeSp {a : Word} : Result.ime? (storeSp a s) = some s.cpu.ime := by
  simp [storeSp, Result.ime?]

theorem ime_pushPair {rr : StackRR} : Result.ime? (pushPair rr s) = some s.cpu.ime := by
  simp [pushPair, Result.ime?]

theorem ime_call {a : Word} : Result.ime? (call a s) = some s.cpu.ime := by
  simp [call, Result.ime?]

theorem ime_restart {a : Word} : Result.ime? (restart a s) = some s.cpu.ime := by
  simp [restart, Result.ime?]

theorem ime_incR8 {k : R8} : Result.ime? (incR8 k s) = some s.cpu.ime := by
  simp [incR8, Result.ime?]

theorem ime_decR8 {k : R8} : Result.ime? (decR8 k s) = some s.cpu.ime := by
  simp [decR8, Result.ime?]

theorem ime_rotR8 {op : Rotate} {k : R8} : Result.ime? (rotR8 op k s) = some s.cpu.ime := by
  simp [rotR8, Result.ime?]

theorem ime_bitBit {n : Nat} {k : R8} : Result.ime? (bitBit n k s) = some s.cpu.ime := by
  simp [bitBit, Result.ime?]

theorem ime_resBit {n : Nat} {k : R8} : Result.ime? (resBit n k s) = some s.cpu.ime := by
  simp [resBit, Result.ime?]

theorem ime_setBit {n : Nat} {k : R8} : Result.ime? (setBit n k s) = some s.cpu.ime := by
  simp [setBit, Result.ime?]

theorem ime_cbTable {op2 : Byte} : Result.ime? (cbTable op2 s) = some s.cpu.ime := by
  unfold cbTable
  dsimp only
  split
  · exact ime_rotR8
  · exact ime_bitBit
  · exact ime_resBit
  · exact ime_setBit

theorem ime_jumpIf {cc : Cond} {a : Word} : Result.ime? (jumpIf cc a s) = some s.cpu.ime := by
  unfold jumpIf
  split <;> simp [Result.ime?]

theorem ime_jumpRelativeIf {cc : Cond} {e : Byte} : Result.ime? (jumpRelativeIf cc e s) = some s.cpu.ime := by
  unfold jumpRelativeIf
  split <;> simp [Result.ime?]

theorem ime_callIf {cc : Cond} {a : Word} : Result.ime? (callIf cc a s) = some s.cpu.ime := by
  unfold callIf
  split <;> simp [Result.ime?]

theorem ime_retIf {cc : Cond} : Result.ime? (retIf cc s) = some s.cpu.ime := by
  unfold retIf
  split <;> simp [Result.ime?, State.returnFromCall, State.drop16]

theorem ime_haltCpu : Result.ime? (haltCpu s) = some s.cpu.ime := by
  unfold haltCpu
  split <;> simp [Result.ime?]

end shapes

/-- No instruction but DI and RETI writes IME. -/
theorem exec_ime {i : Instr} (s : State) (hdi : i ≠ .di) (hreti : i ≠ .reti) :
    Result.ime? (exec i s) = some s.cpu.ime := by
  cases i
  case di => exact absurd rfl hdi
  case reti => exact absurd rfl hreti
  case ld_ata16_SP => exact ime_storeSp
  case jr_NZ_e8 => exact ime_jumpRelativeIf
  case jr_Z_e8 => exact ime_jumpRelativeIf
  case jr_NC_e8 => exact ime_jumpRelativeIf
  case ld_atHL_d8 => exact ime_storeImm
  case jr_C_e8 => exact ime_jumpRelativeIf
  case jp_NZ_a16 => exact ime_jumpIf
  case call_NZ_a16 => exact ime_callIf
  case jp_Z_a16 => exact ime_jumpIf
  case prefix_CB => exact ime_cbTable
  case call_Z_a16 => exact ime_callIf
  case call_a16 => exact ime_call
  case jp_NC_a16 => exact ime_jumpIf
  case call_NC_a16 => exact ime_callIf
  case jp_C_a16 => exact ime_jumpIf
  case call_C_a16 => exact ime_callIf
  case ldh_ata8_A => exact ime_storeA
  case ld_ata16_A => exact ime_storeA
  case ld_atBC_A => exact ime_storeA
  case ld_atDE_A => exact ime_storeA
  case ld_atHLi_A => exact ime_storeAStep
  case ld_atHLd_A => exact ime_storeAStep
  case inc_atHL => exact ime_incR8
  case dec_atHL => exact ime_decR8
  case ld_atHL_B => exact ime_storeReg
  case ld_atHL_C => exact ime_storeReg
  case ld_atHL_D => exact ime_storeReg
  case ld_atHL_E => exact ime_storeReg
  case ld_atHL_H => exact ime_storeReg
  case ld_atHL_L => exact ime_storeReg
  case halt => exact ime_haltCpu
  case ld_atHL_A => exact ime_storeReg
  case ret_NZ => exact ime_retIf
  case push_BC => exact ime_pushPair
  case rst_00H => exact ime_restart
  case ret_Z => exact ime_retIf
  case rst_08H => exact ime_restart
  case ret_NC => exact ime_retIf
  case push_DE => exact ime_pushPair
  case rst_10H => exact ime_restart
  case ret_C => exact ime_retIf
  case rst_18H => exact ime_restart
  case ld_atC_A => exact ime_storeA
  case push_HL => exact ime_pushPair
  case rst_20H => exact ime_restart
  case rst_28H => exact ime_restart
  case push_AF => exact ime_pushPair
  case rst_30H => exact ime_restart
  case rst_38H => exact ime_restart
  case rlc_atHL => exact ime_rotR8
  case rrc_atHL => exact ime_rotR8
  case rl_atHL => exact ime_rotR8
  case rr_atHL => exact ime_rotR8
  case sla_atHL => exact ime_rotR8
  case sra_atHL => exact ime_rotR8
  case swap_atHL => exact ime_rotR8
  case srl_atHL => exact ime_rotR8
  case res_0_atHL => exact ime_resBit
  case res_1_atHL => exact ime_resBit
  case res_2_atHL => exact ime_resBit
  case res_3_atHL => exact ime_resBit
  case res_4_atHL => exact ime_resBit
  case res_5_atHL => exact ime_resBit
  case res_6_atHL => exact ime_resBit
  case res_7_atHL => exact ime_resBit
  case set_0_atHL => exact ime_setBit
  case set_1_atHL => exact ime_setBit
  case set_2_atHL => exact ime_setBit
  case set_3_atHL => exact ime_setBit
  case set_4_atHL => exact ime_setBit
  case set_5_atHL => exact ime_setBit
  case set_6_atHL => exact ime_setBit
  case set_7_atHL => exact ime_setBit
  all_goals rfl

/-! ## The peripherals -/

/-- No peripheral sees the CPU. -/
theorem State.tick_withEi (s : State) (b : Bool) : (s.withEi b).tick = s.tick.withEi b := by
  have ht (s : State) : (s.withEi b).timerTick = s.timerTick.withEi b := by
    unfold State.timerTick State.requestIf
    rw [show (s.withEi b).timer = s.timer from rfl]
    split <;> rfl
  have he (s : State) : (s.withEi b).ppuEvents = s.ppuEvents.withEi b := by
    unfold State.ppuEvents
    rw [show (s.withEi b).ppu = s.ppu from rfl]
    dsimp only
    split
    · split
      · rfl
      · rfl
      · split <;> rfl
    · split <;> rfl
  have hu (s : State) : (s.withEi b).updateStat = s.updateStat.withEi b := by
    unfold State.updateStat State.requestIf
    rw [show (s.withEi b).ppu = s.ppu from rfl]
    split <;> rfl
  have hp (s : State) : (s.withEi b).ppuTick = s.ppuTick.withEi b := by
    unfold State.ppuTick
    rw [show (s.withEi b).ppu = s.ppu from rfl]
    split
    · rw [← hu, ← he]
      rfl
    · rfl
  have hd (s : State) : (s.withEi b).dmaTick = s.dmaTick.withEi b := by
    have hr (a : Word) : (s.withEi b).busRead a = s.busRead a := by
      unfold State.busRead
      split <;> rfl
    unfold State.dmaTick
    rw [show (s.withEi b).dma = s.dma from rfl]
    split
    · dsimp only
      split
      · rw [hr]
        rfl
      · rfl
    · rfl
  unfold State.tick
  rw [ht, hp, hd]

theorem State.advance_withEi (n : Nat) (s : State) (b : Bool) :
    State.advance n (s.withEi b) = (State.advance n s).withEi b := by
  induction n generalizing s with
  | zero => rfl
  | succ n ih => rw [State.advance, State.advance, State.tick_withEi, ih]

end Sys2Proof.Machine
end

