-- ==== Sys2Proof/Laws/Render.lean ====
section
/-! SUPPORT. The renderer: the bits that a tile pixel reads. -/

namespace Sys2Proof.Machine

/-- The colour index of a pixel of tile `t` of the sprites' tile area, as a number. -/
theorem State.tilePixel_toNat (s : State) (t col row : Nat) :
    (s.tilePixel (0x8000 + 16 * t) col row).toNat =
      2 * ((s.vram.read (16 * t + 2 * row + 1)).getLsbD (7 - col)).toNat +
        ((s.vram.read (16 * t + 2 * row)).getLsbD (7 - col)).toNat := by
  have h (a b : Bool) : (bit a ++ bit b : BitVec 2).toNat = 2 * a.toNat + b.toNat := by
    cases a <;> cases b <;> rfl
  unfold State.tilePixel State.vramAt
  rw [h, show 0x8000 + 16 * t + 2 * row + 1 - 0x8000 = 16 * t + 2 * row + 1 by omega,
    show 0x8000 + 16 * t + 2 * row - 0x8000 = 16 * t + 2 * row by omega]

end Sys2Proof.Machine
end

