-- ==== Sys2Proof/Tests/Slice0.lean ====
section
/-! SUPPORT. The model's own tests: the ill-formed term, words written out from the opcode maps
(30_encoding.md R133-R142), vectors of 95_test_vectors.md, each named after its vector, and one witness
for the hypotheses of each statement that has some. -/

namespace Sys2Proof.Tests

open Sys2Proof Sys2Proof.Machine

-- One theorem at a time: each test that waits for the kernel holds a thread with its own stack.
set_option Elab.async false

/-! ## Well-formedness -/

/-- The bare prefix is no whole instruction, and the decoder never delivers it. -/
theorem test_bare_prefix_ill_formed : (Instr.prefix_CB 0x00#8).wellFormed = false := by decide

theorem test_bare_prefix_not_decoded :
    ((List.range 256).all fun n => (decodeBytes (BitVec.ofNat 8 n) 0 0).wellFormed) = true := by
  decide +kernel

theorem test_cb_row_well_formed : (Instr.set_7_A).wellFormed = true := by decide

/-! ## Decoding: the fields of R133-R137 in the patterns of R140 and R141, every value of each -/

theorem test_decode_ld_r_r (r r' : Reg8) :
    decodeBytes (BitVec.ofNat 8 (0b01000000 + 8 * r.code + r'.code)) 0 0 = .loadReg r r' := by
  cases r <;> cases r' <;> rfl

theorem test_decode_ld_r_d8 (r : Reg8) :
    decodeBytes (BitVec.ofNat 8 (0b00000110 + 8 * r.code)) 0x42 0 = .loadRegImm r 0x42 := by
  cases r <;> rfl

theorem test_decode_ld_r_atHL (r : Reg8) :
    decodeBytes (BitVec.ofNat 8 (0b01000110 + 8 * r.code)) 0 0 = .loadRegMem r := by cases r <;> rfl

theorem test_decode_ld_atHL_r (r : Reg8) :
    decodeBytes (BitVec.ofNat 8 (0b01110000 + r.code)) 0 0 = .storeReg r := by cases r <;> rfl

theorem test_decode_ld_rr_d16 (rr : RR) :
    decodeBytes (BitVec.ofNat 8 (0b00000001 + 16 * rr.code)) 0x34 0x12 = .loadPair rr 0x1234 := by
  cases rr <;> rfl

theorem test_decode_push (rr : StackRR) :
    decodeBytes (BitVec.ofNat 8 (0b11000101 + 16 * rr.code)) 0 0 = .push rr := by cases rr <;> rfl

theorem test_decode_pop (rr : StackRR) :
    decodeBytes (BitVec.ofNat 8 (0b11000001 + 16 * rr.code)) 0 0 = .pop rr := by cases rr <;> rfl

theorem test_decode_alu_reg (op : AluOp) (r : Reg8) :
    decodeBytes (BitVec.ofNat 8 (0b10000000 + 8 * op.code + r.code)) 0 0 = .alu op (.r8 (.reg r)) := by
  cases op <;> cases r <;> rfl

theorem test_decode_alu_atHL (op : AluOp) :
    decodeBytes (BitVec.ofNat 8 (0b10000110 + 8 * op.code)) 0 0 = .alu op (.r8 .atHL) := by
  cases op <;> rfl

theorem test_decode_alu_imm (op : AluOp) :
    decodeBytes (BitVec.ofNat 8 (0b11000110 + 8 * op.code)) 0x90 0 = .alu op (.imm 0x90) := by
  cases op <;> rfl

theorem test_decode_inc_dec (r : Reg8) :
    decodeBytes (BitVec.ofNat 8 (0b00000100 + 8 * r.code)) 0 0 = .inc (.reg r) ∧
    decodeBytes (BitVec.ofNat 8 (0b00000101 + 8 * r.code)) 0 0 = .dec (.reg r) := by
  cases r <;> exact ⟨rfl, rfl⟩

theorem test_decode_inc_dec_atHL :
    decodeBytes 0x34 0 0 = .inc .atHL ∧ decodeBytes 0x35 0 0 = .dec .atHL := ⟨rfl, rfl⟩

theorem test_decode_pairs (rr : RR) :
    decodeBytes (BitVec.ofNat 8 (0b00001001 + 16 * rr.code)) 0 0 = .addHl rr ∧
    decodeBytes (BitVec.ofNat 8 (0b00000011 + 16 * rr.code)) 0 0 = .incPair rr ∧
    decodeBytes (BitVec.ofNat 8 (0b00001011 + 16 * rr.code)) 0 0 = .decPair rr := by
  cases rr <;> exact ⟨rfl, rfl, rfl⟩

theorem test_decode_conditions (cc : Cond) :
    decodeBytes (BitVec.ofNat 8 (0b11000010 + 8 * cc.code)) 0x00 0x20 = .jumpIf cc 0x2000 ∧
    decodeBytes (BitVec.ofNat 8 (0b00100000 + 8 * cc.code)) 0xFE 0 = .jumpRelativeIf cc 0xFE ∧
    decodeBytes (BitVec.ofNat 8 (0b11000100 + 8 * cc.code)) 0x00 0x20 = .callIf cc 0x2000 ∧
    decodeBytes (BitVec.ofNat 8 (0b11000000 + 8 * cc.code)) 0 0 = .retIf cc := by
  cases cc <;> exact ⟨rfl, rfl, rfl, rfl⟩

theorem test_decode_rst (y : Fin 8) :
    decodeBytes (BitVec.ofNat 8 (0b11000111 + 8 * y.val)) 0 0 = .restart y := by
  match y with | 0 | 1 | 2 | 3 | 4 | 5 | 6 | 7 => rfl

theorem test_decode_rotates (o : RotOp) (r : Reg8) :
    decodeBytes 0xCB (BitVec.ofNat 8 (8 * o.code + r.code)) 0 = .rotate o (.reg r) ∧
    decodeBytes 0xCB (BitVec.ofNat 8 (8 * o.code + 6)) 0 = .rotate o .atHL := by
  cases o <;> cases r <;> exact ⟨rfl, rfl⟩

theorem test_decode_bits (b : Fin 8) (r : Reg8) :
    decodeBytes 0xCB (BitVec.ofNat 8 (0b01000000 + 8 * b.val + r.code)) 0 = .bitTest b (.reg r) ∧
    decodeBytes 0xCB (BitVec.ofNat 8 (0b10000000 + 8 * b.val + r.code)) 0 = .bitReset b (.reg r) ∧
    decodeBytes 0xCB (BitVec.ofNat 8 (0b11000000 + 8 * b.val + r.code)) 0 = .bitSet b (.reg r) := by
  match b with | 0 | 1 | 2 | 3 | 4 | 5 | 6 | 7 => cases r <;> exact ⟨rfl, rfl, rfl⟩

theorem test_decode_bits_atHL (b : Fin 8) :
    decodeBytes 0xCB (BitVec.ofNat 8 (0b01000110 + 8 * b.val)) 0 = .bitTest b .atHL ∧
    decodeBytes 0xCB (BitVec.ofNat 8 (0b10000110 + 8 * b.val)) 0 = .bitReset b .atHL ∧
    decodeBytes 0xCB (BitVec.ofNat 8 (0b11000110 + 8 * b.val)) 0 = .bitSet b .atHL := by
  match b with | 0 | 1 | 2 | 3 | 4 | 5 | 6 | 7 => exact ⟨rfl, rfl, rfl⟩

/-- The loads and stores without a field. -/
theorem test_decode_fixed_loads :
    [0x02, 0x0A, 0x12, 0x1A, 0x22, 0x2A, 0x32, 0x3A, 0x36, 0xE0, 0xF0, 0xE2, 0xF2, 0xF9].map
        (fun b => decodeBytes b 0x46 0) =
      [.ld_atBC_A, .ld_A_atBC, .ld_atDE_A, .ld_A_atDE, .ld_atHLi_A, .ld_A_atHLi, .ld_atHLd_A,
        .ld_A_atHLd, .ld_atHL_d8 0x46, .ldh_ata8_A 0x46, .ldh_A_ata8 0x46, .ld_atC_A, .ld_A_atC,
        .ld_SP_HL] := by decide

theorem test_decode_fixed_words :
    [0x08, 0xEA, 0xFA, 0xC3, 0xCD].map (fun b => decodeBytes b 0x34 0x12) =
      [.ld_ata16_SP 0x1234, .ld_ata16_A 0x1234, .ld_A_ata16 0x1234, .jp_a16 0x1234,
        .call_a16 0x1234] := by decide

/-- Everything else without a field. -/
theorem test_decode_fixed_others :
    [0x00, 0x10, 0x76, 0xF3, 0xFB, 0x07, 0x0F, 0x17, 0x1F, 0x27, 0x2F, 0x37, 0x3F, 0xE8, 0xF8, 0x18,
        0xE9, 0xC9, 0xD9].map (fun b => decodeBytes b 0xFE 0) =
      [.nop, .stop 0xFE, .halt, .di, .ei, .rlca, .rrca, .rla, .rra, .daa, .cpl, .scf, .ccf,
        .add_SP_e8 0xFE, .ld_HL_SPe8 0xFE, .jr_e8 0xFE, .jp_HL, .ret, .reti] := by decide

/-- The eleven unused opcodes of R142. -/
theorem test_decode_illegal :
    [0xD3, 0xDB, 0xDD, 0xE3, 0xE4, 0xEB, 0xEC, 0xED, 0xF4, 0xFC, 0xFD].map
        (fun b => decodeBytes b 0 0) =
      [.illegal_D3, .illegal_DB, .illegal_DD, .illegal_E3, .illegal_E4, .illegal_EB, .illegal_EC,
        .illegal_ED, .illegal_F4, .illegal_FC, .illegal_FD] := by decide

/-- A sequence that ends inside an instruction is refused by name. -/
theorem test_decode_short :
    (match decode [0xC3#8, 0x00#8] with | .error e => some e | .ok _ => none) = some .truncated := by
  decide

/-- The numbering of the opcode table: a CB row has the prefix in the high byte (log entry 8). -/
theorem test_table_word :
    decodeTableWord 16 0xCB7C = some .bit_7_H ∧ decodeTableWord 8 0x76 = some .halt ∧
    decodeTableWord 24 0x1234C3 = some (.jp_a16 0x1234) ∧
    decodeTableWord 16 0xFE18 = some (.jr_e8 0xFE) := by decide

/-- `withFetchWord` on the machine right after reset: the next step runs the instruction. -/
theorem test_with_fetch_word :
    (State.reset.withFetchWord 16 0x423E).cpuStep.1.cpu.a = 0x42#8 ∧
    (State.reset.withFetchWord 16 0x423E).cpuStep.1.cpu.pc = 0x0102#16 := by decide +kernel

/-! ## One step: vectors of 95_test_vectors.md

`onCode` is the machine right after reset with the bytes of the vector at C000 and PC there. -/

def onCode (code : List Byte) : State :=
  { State.reset with cpu.pc := 0xC000, wram := Cells.ofList 0 code }

/-- The state after a step. -/
def next? (s : State) : Option State :=
  match step s with
  | .next t => some t
  | .fault _ => none
  | .refused _ => none

/-- The fault of a step. -/
def fault? (s : State) : Option Fault :=
  match step s with
  | .next _ => none
  | .fault f => some f
  | .refused _ => none

theorem next_of {s : State} (h : (next? s).isSome = true) : ∃ t, step s = .next t := by
  unfold next? at h
  cases hs : step s with
  | next t => exact ⟨t, rfl⟩
  | fault f => rw [hs] at h; cases h
  | refused r => rw [hs] at h; cases h

theorem fault_of {s : State} {f : Fault} (h : fault? s = some f) : step s = .fault f := by
  unfold fault? at h
  cases hs : step s with
  | next t => rw [hs] at h; cases h
  | fault g => rw [hs] at h; cases h; rfl
  | refused r => rw [hs] at h; cases h

/-- What a vector looks at after one step from its inputs. -/
def stepOf {α : Type} (code : List Byte) (pre : State → State) (get : State → α) : Option α :=
  (next? (pre (onCode code))).map get

theorem test_V_L1 : stepOf [0x78#8] (fun s => { s with cpu.b := 0x12, cpu.f := 0x00 })
    (fun t => (t.cpu.a, t.cpu.f, t.cpu.pc, t.cpu.stepCost)) =
    some (0x12, 0b00000000, 0xC001, 4) := by decide +kernel

theorem test_V_L3 : stepOf [0x3E#8, 0x42#8] (fun s => { s with cpu.f := 0x00 })
    (fun t => (t.cpu.a, t.cpu.f, t.cpu.pc, t.cpu.stepCost)) =
    some (0x42, 0b00000000, 0xC002, 8) := by decide +kernel

theorem test_V_L4 : stepOf [0x66#8] (fun s => { s with
      cpu.h := 0xC1, cpu.l := 0x00, cpu.f := 0x00, wram := s.wram.write 0x100 0xAB })
    (fun t => (t.cpu.h, t.cpu.f, t.cpu.pc, t.cpu.stepCost)) =
    some (0xAB, 0b00000000, 0xC001, 8) := by decide +kernel

theorem test_V_L6 : stepOf [0x36#8, 0x99#8] (fun s => { s with
      cpu.h := 0xC1, cpu.l := 0x00, cpu.f := 0x00 })
    (fun t => (t.cpu.f, t.cpu.pc, t.memRead 0xC100, t.cpu.stepCost)) =
    some (0b00000000, 0xC002, 0x99, 12) := by decide +kernel

theorem test_V_L7 : stepOf [0x0A#8] (fun s => { s with
      cpu.b := 0xC1, cpu.c := 0x20, cpu.f := 0x00, wram := s.wram.write 0x120 0x77 })
    (fun t => (t.cpu.a, t.cpu.f, t.cpu.pc, t.cpu.stepCost)) =
    some (0x77, 0b00000000, 0xC001, 8) := by decide +kernel

theorem test_V_L8 : stepOf [0x12#8] (fun s => { s with
      cpu.d := 0xC1, cpu.e := 0x30, cpu.a := 0x3C, cpu.f := 0x00 })
    (fun t => (t.cpu.f, t.cpu.pc, t.memRead 0xC130, t.cpu.stepCost)) =
    some (0b00000000, 0xC001, 0x3C, 8) := by decide +kernel

theorem test_V_L9 : stepOf [0xFA#8, 0x00#8, 0xC1#8] (fun s => { s with
      cpu.f := 0x00, wram := s.wram.write 0x100 0x3C })
    (fun t => (t.cpu.a, t.cpu.f, t.cpu.pc, t.cpu.stepCost)) =
    some (0x3C, 0b00000000, 0xC003, 16) := by decide +kernel

theorem test_V_L10 : stepOf [0xEA#8, 0x40#8, 0xC1#8] (fun s => { s with
      cpu.a := 0x81, cpu.f := 0x00 })
    (fun t => (t.cpu.f, t.cpu.pc, t.memRead 0xC140, t.cpu.stepCost)) =
    some (0b00000000, 0xC003, 0x81, 16) := by decide +kernel

theorem test_V_L12 : stepOf [0xE0#8, 0x81#8] (fun s => { s with cpu.a := 0x11, cpu.f := 0x00 })
    (fun t => (t.cpu.f, t.cpu.pc, t.memRead 0xFF81, t.cpu.stepCost)) =
    some (0b00000000, 0xC002, 0x11, 12) := by decide +kernel

theorem test_V_L13 : stepOf [0xF2#8] (fun s => { s with
      cpu.c := 0x82, cpu.f := 0x00, hram := [(0x2, 0x6D)] })
    (fun t => (t.cpu.a, t.cpu.f, t.cpu.pc, t.cpu.stepCost)) =
    some (0x6D, 0b00000000, 0xC001, 8) := by decide +kernel

theorem test_V_L15 : stepOf [0x22#8] (fun s => { s with
      cpu.h := 0xC0, cpu.l := 0xFF, cpu.a := 0x55, cpu.f := 0x00 })
    (fun t => (t.cpu.h, t.cpu.l, t.cpu.f, t.cpu.pc, t.memRead 0xC0FF, t.cpu.stepCost)) =
    some (0xC1, 0x00, 0b00000000, 0xC001, 0x55, 8) := by decide +kernel

theorem test_V_L16 : stepOf [0x32#8] (fun s => { s with
      cpu.h := 0xC1, cpu.l := 0x00, cpu.a := 0x66, cpu.f := 0x00 })
    (fun t => (t.cpu.h, t.cpu.l, t.cpu.f, t.cpu.pc, t.memRead 0xC100, t.cpu.stepCost)) =
    some (0xC0, 0xFF, 0b00000000, 0xC001, 0x66, 8) := by decide +kernel

theorem test_V_L18 : stepOf [0x3A#8] (fun s => { s with
      cpu.h := 0x00, cpu.l := 0x00, cpu.f := 0x00 })
    (fun t => (t.cpu.a, t.cpu.h, t.cpu.l, t.cpu.f, t.cpu.pc, t.cpu.stepCost)) =
    some (0x00, 0xFF, 0xFF, 0b00000000, 0xC001, 8) := by decide +kernel

theorem test_V_L19 : stepOf [0x21#8, 0x34#8, 0x12#8] (fun s => { s with cpu.f := 0x00 })
    (fun t => (t.cpu.h, t.cpu.l, t.cpu.f, t.cpu.pc, t.cpu.stepCost)) =
    some (0x12, 0x34, 0b00000000, 0xC003, 12) := by decide +kernel

theorem test_V_L21 : stepOf [0x08#8, 0x00#8, 0xC1#8] (fun s => { s with
      cpu.sp := 0xFFF8, cpu.f := 0x00 })
    (fun t => (t.cpu.f, t.cpu.pc, t.memRead 0xC100, t.memRead 0xC101, t.cpu.stepCost)) =
    some (0b00000000, 0xC003, 0xF8, 0xFF, 20) := by decide +kernel

theorem test_V_L22 : stepOf [0xF9#8] (fun s => { s with
      cpu.h := 0xDF, cpu.l := 0xF0, cpu.f := 0x00 })
    (fun t => (t.cpu.sp, t.cpu.f, t.cpu.pc, t.cpu.stepCost)) =
    some (0xDFF0, 0b00000000, 0xC001, 8) := by decide +kernel

theorem test_V_L23 : stepOf [0xC5#8] (fun s => { s with
      cpu.b := 0x12, cpu.c := 0x34, cpu.sp := 0xDFFE, cpu.f := 0x00 })
    (fun t => (t.cpu.sp, t.cpu.f, t.cpu.pc, t.memRead 0xDFFD, t.memRead 0xDFFC, t.cpu.stepCost)) =
    some (0xDFFC, 0b00000000, 0xC001, 0x12, 0x34, 16) := by decide +kernel

theorem test_V_L24 : stepOf [0xF5#8] (fun s => { s with
      cpu.a := 0x12, cpu.f := 0xB0, cpu.sp := 0xDFFE })
    (fun t => (t.cpu.sp, t.cpu.f, t.cpu.pc, t.memRead 0xDFFD, t.memRead 0xDFFC, t.cpu.stepCost)) =
    some (0xDFFC, 0b10110000, 0xC001, 0x12, 0xB0, 16) := by decide +kernel

theorem test_V_L25 : stepOf [0xF1#8] (fun s => { s with
      cpu.sp := 0xDFF0, cpu.f := 0x00, wram := (s.wram.write 0x1FF0 0xFF).write 0x1FF1 0x12 })
    (fun t => (t.cpu.a, t.cpu.sp, t.cpu.f, t.cpu.pc, t.cpu.stepCost)) =
    some (0x12, 0xDFF2, 0b11110000, 0xC001, 12) := by decide +kernel

theorem test_V_L27 : stepOf [0xE5#8] (fun s => { s with
      cpu.h := 0xAB, cpu.l := 0xCD, cpu.sp := 0x0000, cpu.f := 0x00 })
    (fun t => (t.cpu.sp, t.cpu.pc, t.memRead 0xFFFF, t.memRead 0xFFFE, t.irq.ie, t.cpu.stepCost)) =
    some (0xFFFE, 0xC001, 0xAB, 0xCD, 0xAB, 16) := by decide +kernel

theorem test_V_A1 : stepOf [0x80#8] (fun s => { s with
      cpu.a := 0x3A, cpu.b := 0xC6, cpu.f := 0x00 })
    (fun t => (t.cpu.a, t.cpu.f, t.cpu.pc, t.cpu.stepCost)) =
    some (0x00, 0b10110000, 0xC001, 4) := by decide +kernel

theorem test_V_A4 : stepOf [0x86#8] (fun s => { s with
      cpu.a := 0xF0, cpu.h := 0xC1, cpu.l := 0x00, cpu.f := 0x00
      wram := s.wram.write 0x100 0x20 })
    (fun t => (t.cpu.a, t.cpu.f, t.cpu.pc, t.cpu.stepCost)) =
    some (0x10, 0b00010000, 0xC001, 8) := by decide +kernel

theorem test_V_A5 : stepOf [0x8B#8] (fun s => { s with
      cpu.a := 0xE1, cpu.e := 0x0F, cpu.f := 0x10 })
    (fun t => (t.cpu.a, t.cpu.f, t.cpu.pc, t.cpu.stepCost)) =
    some (0xF1, 0b00100000, 0xC001, 4) := by decide +kernel

theorem test_V_A8 : stepOf [0x93#8] (fun s => { s with
      cpu.a := 0x3E, cpu.e := 0x3E, cpu.f := 0x00 })
    (fun t => (t.cpu.a, t.cpu.f, t.cpu.pc, t.cpu.stepCost)) =
    some (0x00, 0b11000000, 0xC001, 4) := by decide +kernel

theorem test_V_A11 : stepOf [0x9C#8] (fun s => { s with
      cpu.a := 0x3B, cpu.h := 0x2A, cpu.f := 0x10 })
    (fun t => (t.cpu.a, t.cpu.f, t.cpu.pc, t.cpu.stepCost)) =
    some (0x10, 0b01000000, 0xC001, 4) := by decide +kernel

theorem test_V_A15 : stepOf [0xE6#8, 0x00#8] (fun s => { s with cpu.a := 0xFF, cpu.f := 0x10 })
    (fun t => (t.cpu.a, t.cpu.f, t.cpu.pc, t.cpu.stepCost)) =
    some (0x00, 0b10100000, 0xC002, 8) := by decide +kernel

theorem test_V_A16 : stepOf [0xAF#8] (fun s => { s with cpu.a := 0x77, cpu.f := 0x70 })
    (fun t => (t.cpu.a, t.cpu.f, t.cpu.pc, t.cpu.stepCost)) =
    some (0x00, 0b10000000, 0xC001, 4) := by decide +kernel

theorem test_V_A17 : stepOf [0xB7#8] (fun s => { s with cpu.a := 0x00, cpu.f := 0x70 })
    (fun t => (t.cpu.f, t.cpu.pc, t.cpu.stepCost)) =
    some (0b10000000, 0xC001, 4) := by decide +kernel

theorem test_V_A18 : stepOf [0xB8#8] (fun s => { s with
      cpu.a := 0x3C, cpu.b := 0x2F, cpu.f := 0x00 })
    (fun t => (t.cpu.f, t.cpu.pc, t.cpu.stepCost)) =
    some (0b01100000, 0xC001, 4) := by decide +kernel

theorem test_V_A21 : stepOf [0x3C#8] (fun s => { s with cpu.a := 0xFF, cpu.f := 0x10 })
    (fun t => (t.cpu.a, t.cpu.f, t.cpu.pc, t.cpu.stepCost)) =
    some (0x00, 0b10110000, 0xC001, 4) := by decide +kernel

theorem test_V_A23 : stepOf [0x34#8] (fun s => { s with
      cpu.h := 0xC1, cpu.l := 0x00, cpu.f := 0x00, wram := s.wram.write 0x100 0x50 })
    (fun t => (t.cpu.f, t.cpu.pc, t.memRead 0xC100, t.cpu.stepCost)) =
    some (0b00000000, 0xC001, 0x51, 12) := by decide +kernel

theorem test_V_A24 : stepOf [0x2D#8] (fun s => { s with cpu.l := 0x01, cpu.f := 0x10 })
    (fun t => (t.cpu.l, t.cpu.f, t.cpu.pc, t.cpu.stepCost)) =
    some (0x00, 0b11010000, 0xC001, 4) := by decide +kernel

theorem test_V_A27 : stepOf [0x35#8] (fun s => { s with
      cpu.h := 0xC1, cpu.l := 0x00, cpu.f := 0x00, wram := s.wram.write 0x100 0x00 })
    (fun t => (t.cpu.f, t.cpu.pc, t.memRead 0xC100, t.cpu.stepCost)) =
    some (0b01100000, 0xC001, 0xFF, 12) := by decide +kernel

theorem test_V_A31 : stepOf [0x27#8] (fun s => { s with cpu.a := 0x9A, cpu.f := 0x00 })
    (fun t => (t.cpu.a, t.cpu.f, t.cpu.pc, t.cpu.stepCost)) =
    some (0x00, 0b10010000, 0xC001, 4) := by decide +kernel

theorem test_V_A33 : stepOf [0x27#8] (fun s => { s with cpu.a := 0x0F, cpu.f := 0x60 })
    (fun t => (t.cpu.a, t.cpu.f, t.cpu.pc, t.cpu.stepCost)) =
    some (0x09, 0b01000000, 0xC001, 4) := by decide +kernel

theorem test_V_A34 : stepOf [0x2F#8] (fun s => { s with cpu.a := 0x35, cpu.f := 0x00 })
    (fun t => (t.cpu.a, t.cpu.f, t.cpu.pc, t.cpu.stepCost)) =
    some (0xCA, 0b01100000, 0xC001, 4) := by decide +kernel

theorem test_V_A35 : stepOf [0x37#8] (fun s => { s with cpu.f := 0xE0 })
    (fun t => (t.cpu.f, t.cpu.pc, t.cpu.stepCost)) =
    some (0b10010000, 0xC001, 4) := by decide +kernel

theorem test_V_A36 : stepOf [0x3F#8] (fun s => { s with cpu.f := 0xB0 })
    (fun t => (t.cpu.f, t.cpu.pc, t.cpu.stepCost)) =
    some (0b10000000, 0xC001, 4) := by decide +kernel

theorem test_V_A37 : stepOf [0x3F#8] (fun s => { s with cpu.f := 0x80 })
    (fun t => (t.cpu.f, t.cpu.pc, t.cpu.stepCost)) =
    some (0b10010000, 0xC001, 4) := by decide +kernel

theorem test_V_W1 : stepOf [0x09#8] (fun s => { s with
      cpu.h := 0x8A, cpu.l := 0x23, cpu.b := 0x06, cpu.c := 0x05, cpu.f := 0x80 })
    (fun t => (t.cpu.h, t.cpu.l, t.cpu.f, t.cpu.pc, t.cpu.stepCost)) =
    some (0x90, 0x28, 0b10100000, 0xC001, 8) := by decide +kernel

theorem test_V_W3 : stepOf [0x39#8] (fun s => { s with
      cpu.h := 0xFF, cpu.l := 0xFF, cpu.sp := 0x0001, cpu.f := 0x00 })
    (fun t => (t.cpu.h, t.cpu.l, t.cpu.f, t.cpu.pc, t.cpu.stepCost)) =
    some (0x00, 0x00, 0b00110000, 0xC001, 8) := by decide +kernel

theorem test_V_W4 : stepOf [0x13#8] (fun s => { s with
      cpu.d := 0xFF, cpu.e := 0xFF, cpu.f := 0xF0 })
    (fun t => (t.cpu.d, t.cpu.e, t.cpu.f, t.cpu.pc, t.cpu.stepCost)) =
    some (0x00, 0x00, 0b11110000, 0xC001, 8) := by decide +kernel

theorem test_V_W5 : stepOf [0x0B#8] (fun s => { s with
      cpu.b := 0x00, cpu.c := 0x00, cpu.f := 0x00 })
    (fun t => (t.cpu.b, t.cpu.c, t.cpu.f, t.cpu.pc, t.cpu.stepCost)) =
    some (0xFF, 0xFF, 0b00000000, 0xC001, 8) := by decide +kernel

theorem test_V_W8 : stepOf [0xE8#8, 0xFF#8] (fun s => { s with cpu.sp := 0x0001, cpu.f := 0x00 })
    (fun t => (t.cpu.sp, t.cpu.f, t.cpu.pc, t.cpu.stepCost)) =
    some (0x0000, 0b00110000, 0xC002, 16) := by decide +kernel

theorem test_V_W10 : stepOf [0xF8#8, 0xFE#8] (fun s => { s with cpu.sp := 0xDFF0, cpu.f := 0x80 })
    (fun t => (t.cpu.h, t.cpu.l, t.cpu.f, t.cpu.pc, t.cpu.stepCost)) =
    some (0xDF, 0xEE, 0b00010000, 0xC002, 12) := by decide +kernel

theorem test_V_B1 : stepOf [0x07#8] (fun s => { s with cpu.a := 0x85, cpu.f := 0x00 })
    (fun t => (t.cpu.a, t.cpu.f, t.cpu.pc, t.cpu.stepCost)) =
    some (0x0B, 0b00010000, 0xC001, 4) := by decide +kernel

theorem test_V_B3 : stepOf [0x0F#8] (fun s => { s with cpu.a := 0x3B, cpu.f := 0x00 })
    (fun t => (t.cpu.a, t.cpu.f, t.cpu.pc, t.cpu.stepCost)) =
    some (0x9D, 0b00010000, 0xC001, 4) := by decide +kernel

theorem test_V_B4 : stepOf [0x17#8] (fun s => { s with cpu.a := 0x95, cpu.f := 0x10 })
    (fun t => (t.cpu.a, t.cpu.f, t.cpu.pc, t.cpu.stepCost)) =
    some (0x2B, 0b00010000, 0xC001, 4) := by decide +kernel

theorem test_V_B6 : stepOf [0x1F#8] (fun s => { s with cpu.a := 0x81, cpu.f := 0x00 })
    (fun t => (t.cpu.a, t.cpu.f, t.cpu.pc, t.cpu.stepCost)) =
    some (0x40, 0b00010000, 0xC001, 4) := by decide +kernel

theorem test_V_B7 : stepOf [0xCB#8, 0x00#8] (fun s => { s with cpu.b := 0x85, cpu.f := 0x00 })
    (fun t => (t.cpu.b, t.cpu.f, t.cpu.pc, t.cpu.stepCost)) =
    some (0x0B, 0b00010000, 0xC002, 8) := by decide +kernel

theorem test_V_B9 : stepOf [0xCB#8, 0x09#8] (fun s => { s with cpu.c := 0x01, cpu.f := 0x00 })
    (fun t => (t.cpu.c, t.cpu.f, t.cpu.pc, t.cpu.stepCost)) =
    some (0x80, 0b00010000, 0xC002, 8) := by decide +kernel

theorem test_V_B10 : stepOf [0xCB#8, 0x15#8] (fun s => { s with cpu.l := 0x80, cpu.f := 0x00 })
    (fun t => (t.cpu.l, t.cpu.f, t.cpu.pc, t.cpu.stepCost)) =
    some (0x00, 0b10010000, 0xC002, 8) := by decide +kernel

theorem test_V_B12 : stepOf [0xCB#8, 0x1F#8] (fun s => { s with cpu.a := 0x00, cpu.f := 0x10 })
    (fun t => (t.cpu.a, t.cpu.f, t.cpu.pc, t.cpu.stepCost)) =
    some (0x80, 0b00000000, 0xC002, 8) := by decide +kernel

theorem test_V_B13 : stepOf [0xCB#8, 0x22#8] (fun s => { s with cpu.d := 0xC1, cpu.f := 0x00 })
    (fun t => (t.cpu.d, t.cpu.f, t.cpu.pc, t.cpu.stepCost)) =
    some (0x82, 0b00010000, 0xC002, 8) := by decide +kernel

theorem test_V_B14 : stepOf [0xCB#8, 0x2F#8] (fun s => { s with cpu.a := 0x8A, cpu.f := 0x00 })
    (fun t => (t.cpu.a, t.cpu.f, t.cpu.pc, t.cpu.stepCost)) =
    some (0xC5, 0b00000000, 0xC002, 8) := by decide +kernel

theorem test_V_B16 : stepOf [0xCB#8, 0x37#8] (fun s => { s with cpu.a := 0xF0, cpu.f := 0x10 })
    (fun t => (t.cpu.a, t.cpu.f, t.cpu.pc, t.cpu.stepCost)) =
    some (0x0F, 0b00000000, 0xC002, 8) := by decide +kernel

theorem test_V_B18 : stepOf [0xCB#8, 0x3F#8] (fun s => { s with cpu.a := 0xFF, cpu.f := 0x00 })
    (fun t => (t.cpu.a, t.cpu.f, t.cpu.pc, t.cpu.stepCost)) =
    some (0x7F, 0b00010000, 0xC002, 8) := by decide +kernel

theorem test_V_B19 : stepOf [0xCB#8, 0x7C#8] (fun s => { s with cpu.h := 0x80, cpu.f := 0x10 })
    (fun t => (t.cpu.f, t.cpu.pc, t.cpu.stepCost)) =
    some (0b00110000, 0xC002, 8) := by decide +kernel

theorem test_V_B21 : stepOf [0xCB#8, 0x46#8] (fun s => { s with
      cpu.h := 0xC1, cpu.l := 0x00, cpu.f := 0x10, wram := s.wram.write 0x100 0xFE })
    (fun t => (t.cpu.f, t.cpu.pc, t.cpu.stepCost)) =
    some (0b10110000, 0xC002, 12) := by decide +kernel

theorem test_V_B22 : stepOf [0xCB#8, 0xBF#8] (fun s => { s with cpu.a := 0x80, cpu.f := 0xF0 })
    (fun t => (t.cpu.a, t.cpu.f, t.cpu.pc, t.cpu.stepCost)) =
    some (0x00, 0b11110000, 0xC002, 8) := by decide +kernel

theorem test_V_B23 : stepOf [0xCB#8, 0x86#8] (fun s => { s with
      cpu.h := 0xC1, cpu.l := 0x00, cpu.f := 0x00, wram := s.wram.write 0x100 0xFF })
    (fun t => (t.cpu.f, t.cpu.pc, t.memRead 0xC100, t.cpu.stepCost)) =
    some (0b00000000, 0xC002, 0xFE, 16) := by decide +kernel

theorem test_V_B25 : stepOf [0xCB#8, 0xFE#8] (fun s => { s with
      cpu.h := 0xC1, cpu.l := 0x00, cpu.f := 0x00, wram := s.wram.write 0x100 0x00 })
    (fun t => (t.cpu.f, t.cpu.pc, t.memRead 0xC100, t.cpu.stepCost)) =
    some (0b00000000, 0xC002, 0x80, 16) := by decide +kernel

theorem test_V_C1 : stepOf [0xC3#8, 0x50#8, 0x01#8] (fun s => { s with cpu.f := 0x00 })
    (fun t => (t.cpu.f, t.cpu.pc, t.cpu.stepCost)) =
    some (0b00000000, 0x0150, 16) := by decide +kernel

theorem test_V_C3 : stepOf [0xCA#8, 0x00#8, 0x30#8] (fun s => { s with cpu.f := 0x00 })
    (fun t => (t.cpu.f, t.cpu.pc, t.cpu.stepCost)) =
    some (0b00000000, 0xC003, 12) := by decide +kernel

theorem test_V_C4 : stepOf [0xE9#8] (fun s => { s with
      cpu.h := 0x40, cpu.l := 0x00, cpu.f := 0x00 })
    (fun t => (t.cpu.f, t.cpu.pc, t.cpu.stepCost)) =
    some (0b00000000, 0x4000, 4) := by decide +kernel

theorem test_V_C7 : stepOf [0x30#8, 0xFC#8] (fun s => { s with cpu.f := 0x00 })
    (fun t => (t.cpu.f, t.cpu.pc, t.cpu.stepCost)) =
    some (0b00000000, 0xBFFE, 12) := by decide +kernel

theorem test_V_C8 : stepOf [0x30#8, 0xFC#8] (fun s => { s with cpu.f := 0x10 })
    (fun t => (t.cpu.f, t.cpu.pc, t.cpu.stepCost)) =
    some (0b00010000, 0xC002, 8) := by decide +kernel

theorem test_V_C10 : stepOf [0xCD#8, 0x00#8, 0x20#8] (fun s => { s with
      cpu.sp := 0xDFFE, cpu.f := 0x00 })
    (fun t => (t.cpu.sp, t.cpu.f, t.cpu.pc, t.memRead 0xDFFD, t.memRead 0xDFFC, t.cpu.stepCost)) =
    some (0xDFFC, 0b00000000, 0x2000, 0xC0, 0x03, 24) := by decide +kernel

theorem test_V_C12 : stepOf [0xC4#8, 0x00#8, 0x20#8] (fun s => { s with
      cpu.sp := 0xDFFE, cpu.f := 0x80 })
    (fun t => (t.cpu.f, t.cpu.pc, t.cpu.stepCost)) =
    some (0b10000000, 0xC003, 12) := by decide +kernel

theorem test_V_C13 : stepOf [0xC9#8] (fun s => { s with
      cpu.sp := 0xDFFC, cpu.f := 0x00, wram := (s.wram.write 0x1FFC 0x53).write 0x1FFD 0x01 })
    (fun t => (t.cpu.sp, t.cpu.f, t.cpu.pc, t.cpu.stepCost)) =
    some (0xDFFE, 0b00000000, 0x0153, 16) := by decide +kernel

theorem test_V_C14 : stepOf [0xD8#8] (fun s => { s with
      cpu.sp := 0xDFFC, cpu.f := 0x10, wram := (s.wram.write 0x1FFC 0x53).write 0x1FFD 0x01 })
    (fun t => (t.cpu.sp, t.cpu.f, t.cpu.pc, t.cpu.stepCost)) =
    some (0xDFFE, 0b00010000, 0x0153, 20) := by decide +kernel

theorem test_V_C15 : stepOf [0xD8#8] (fun s => { s with
      cpu.sp := 0xDFFC, cpu.f := 0x00, wram := (s.wram.write 0x1FFC 0x53).write 0x1FFD 0x01 })
    (fun t => (t.cpu.f, t.cpu.pc, t.cpu.stepCost)) =
    some (0b00000000, 0xC001, 8) := by decide +kernel

theorem test_V_C16 : stepOf [0xD9#8] (fun s => { s with
      cpu.sp := 0xDFFC, cpu.ime := false, cpu.f := 0x00
      wram := (s.wram.write 0x1FFC 0x53).write 0x1FFD 0x01 })
    (fun t => (t.cpu.sp, t.cpu.ime, t.cpu.f, t.cpu.pc, t.cpu.stepCost)) =
    some (0xDFFE, true, 0b00000000, 0x0153, 16) := by decide +kernel

theorem test_V_C17 : stepOf [0xFF#8] (fun s => { s with cpu.sp := 0xDFFE, cpu.f := 0x00 })
    (fun t => (t.cpu.sp, t.cpu.f, t.cpu.pc, t.memRead 0xDFFD, t.memRead 0xDFFC, t.cpu.stepCost)) =
    some (0xDFFC, 0b00000000, 0x0038, 0xC0, 0x01, 16) := by decide +kernel

theorem test_V_Y1 : stepOf [0x00#8] (fun s => { s with cpu.f := 0x00 })
    (fun t => (t.cpu.f, t.cpu.pc, t.cpu.stepCost)) =
    some (0b00000000, 0xC001, 4) := by decide +kernel

theorem test_V_Y2 : stepOf [0x76#8] (fun s => { s with
      cpu.ime := false, irq.ie := 0x01, irq.ifl := 0x00, cpu.f := 0x00 })
    (fun t => (t.cpu.f, t.cpu.pc, t.cpu.halted, t.cpu.haltBug, t.cpu.stepCost)) =
    some (0b00000000, 0xC001, true, false, 4) := by decide +kernel

theorem test_V_Y3 : stepOf [0x76#8] (fun s => { s with
      cpu.ime := false, irq.ie := 0x01, irq.ifl := 0x01, cpu.f := 0x00 })
    (fun t => (t.cpu.f, t.cpu.pc, t.cpu.halted, t.cpu.haltBug, t.cpu.stepCost)) =
    some (0b00000000, 0xC001, false, true, 4) := by decide +kernel

theorem test_V_Y5 : stepOf [0x10#8, 0x00#8] (fun s => { s with joypad.sel := 0b10, cpu.f := 0x00 })
    (fun t => (t.cpu.f, t.cpu.pc, t.cpu.stopped, t.timer.tcount, t.cpu.stepCost)) =
    some (0b00000000, 0xC002, true, 0x0004, 4) := by decide +kernel

theorem test_V_Y6 : stepOf [0xF3#8] (fun s => { s with
      cpu.ime := true, cpu.eiPending := true, cpu.f := 0x00 })
    (fun t => (t.cpu.ime, t.cpu.f, t.cpu.pc, t.cpu.eiPending, t.cpu.stepCost)) =
    some (false, 0b00000000, 0xC001, false, 4) := by decide +kernel

theorem test_V_Y7 : stepOf [0xFB#8] (fun s => { s with cpu.ime := false, cpu.f := 0x00 })
    (fun t => (t.cpu.f, t.cpu.pc, t.cpu.eiPending, t.cpu.stepCost)) =
    some (0b00000000, 0xC001, true, 4) := by decide +kernel

theorem test_V_Y8 : fault? (onCode [0xD3#8]) = some (.illegalOpcode 0xC000 0xD3) ∧
    (onCode [0xD3#8]).machineStep.1.cpu.pc = 0xC001#16 ∧
    (onCode [0xD3#8]).machineStep.1.timer.tcount = 0xABCC#16 := by decide +kernel

/-! ## Interrupts -/

theorem test_V_I1 : stepOf [0x00#8] (fun s => { s with
      cpu.ime := true, irq.ie := 0x1F, irq.ifl := 0x1F, cpu.sp := 0xDFFE })
    (fun t => (t.cpu.pc, t.irq.ifl, t.cpu.ime, t.cpu.sp, t.memRead 0xDFFD, t.memRead 0xDFFC)) =
    some (0x0040, 0x1E, false, 0xDFFC, 0xC0, 0x00) := by decide +kernel

theorem test_V_I2 : stepOf [0x00#8] (fun s => { s with
      cpu.ime := true, irq.ie := 0x04, irq.ifl := 0x05, cpu.sp := 0xDFFE })
    (fun t => (t.cpu.pc, t.irq.ifl, t.cpu.stepCost)) =
    some (0x0050, 0x01, 20) := by decide +kernel

theorem test_V_I9 : stepOf [0x00#8] (fun s => { s with
      cpu.ime := true, irq.ie := 0x01, irq.ifl := 0x01, cpu.sp := 0x0001 })
    (fun t => (t.cpu.pc, t.cpu.sp, t.irq.ie, t.irq.ifl)) =
    some (0x0040, 0xFFFF, 0x00, 0x00) := by decide +kernel

/-- EI executed with IME = 1 and then a service: the latch is gone (45_system.md R295, log entry 16). -/
theorem test_service_after_ei : stepOf [0x00#8] (fun s => { s with
      cpu.ime := true, cpu.eiPending := true, irq.ie := 0x04, irq.ifl := 0x04, cpu.sp := 0xDFFE })
    (fun t => (t.cpu.pc, t.cpu.ime, t.cpu.eiPending)) = some (0x0050, false, false) := by decide +kernel

/-! ## The timer, the DMA engine and the joypad -/

def timerTest (tcount : Word) (tima : Byte) : State :=
  { State.reset with timer := { tcount, tima, tma := 0xFE, tac := 0b101, reloadCnt := 0 } }

theorem test_V_T3 : ((timerTest 0x0008 0x10).memWrite 0xFF04 0x77).timer.tima = 0x11#8 ∧
    ((timerTest 0x0008 0x10).memWrite 0xFF04 0x77).timer.tcount = 0x0000#16 := by decide +kernel

theorem test_V_T4 : ((timerTest 0x0007 0x10).memWrite 0xFF04 0x77).timer.tima = 0x10#8 := by
  decide +kernel

theorem test_V_T5 : ((timerTest 0x0008 0x10).memWrite 0xFF07 0x04).timer.tima = 0x11#8 ∧
    ((timerTest 0x0008 0x10).memWrite 0xFF07 0x04).memRead 0xFF07 = 0xFC#8 := by decide +kernel

theorem test_V_T8 : (State.advance 1 (timerTest 0x000F 0xFF)).timer.tima = 0x00#8 ∧
    (State.advance 1 (timerTest 0x000F 0xFF)).timer.reloadCnt = 4 := by decide +kernel

theorem test_V_T12 : (State.advance 5 (timerTest 0x000F 0xFF)).timer.tima = 0xFE#8 ∧
    (State.advance 5 (timerTest 0x000F 0xFF)).irq.ifl = 0b00101#5 := by decide +kernel

theorem test_V_D3 :
    (State.advance 4 ({ State.reset with wram := [(0, 0x33)] }.memWrite 0xFF46 0xE0)).oam =
      [(0, 0x33#8)] := by decide +kernel

theorem test_V_J2 :
    (match ({ State.reset with irq.ifl := 0, joypad.sel := 0b01 } : State).keyPress 6 with
      | .ok t => some (t.memRead 0xFF00, t.irq.ifl)
      | .error _ => none) = some (0xDB, 0b10000) := by decide +kernel

/-! ## The PPU -/

/-- The machine right after reset at dot 79 of line 0, with BGP and OBP0 = E4, OBP1 = 1B. -/
def beforeLine (lcdc : Byte) (vram oam : Memory) : State :=
  { State.reset with
    ppu.lcdc := lcdc, ppu.dot := 79, ppu.bgp := 0xE4, ppu.obp0 := 0xE4, ppu.obp1 := 0x1B
    vram := vram, oam := oam }

/-- The first 16 indices of line 0 once it is rendered. -/
def firstPixels (s : State) : List (BitVec 2) := (s.tick.ppu.fbIndex.toList 16)

theorem test_V_R1 :
    firstPixels (beforeLine 0x91 [(0x0010, 0xF0), (0x0011, 0xCC), (0x1800, 0x01)] []) =
      [3, 3, 1, 1, 2, 2, 0, 0, 0, 0, 0, 0, 0, 0, 0, 0] := by decide +kernel

theorem test_V_R4 :
    firstPixels (beforeLine 0x81 [(0x0800, 0xFF), (0x1001, 0xFF), (0x1800, 0x80)] []) =
      [1, 1, 1, 1, 1, 1, 1, 1, 2, 2, 2, 2, 2, 2, 2, 2] := by decide +kernel

theorem test_V_R8 :
    firstPixels (beforeLine 0x93 [(0x0010, 0xFF), (0x0011, 0xFF), (0x0020, 0xFF)]
        [(0, 0x10), (1, 0x0C), (2, 0x01), (4, 0x10), (5, 0x0A), (6, 0x02), (7, 0x10)]) =
      [0, 0, 1, 1, 1, 1, 1, 1, 1, 1, 3, 3, 0, 0, 0, 0] := by decide +kernel

theorem test_V_R11 :
    firstPixels (beforeLine 0x93 [(0x0020, 0xF0)] [(0, 0x10), (1, 0x08), (2, 0x02), (3, 0x20)]) =
      [0, 0, 0, 0, 1, 1, 1, 1, 0, 0, 0, 0, 0, 0, 0, 0] := by decide +kernel

theorem test_V_P5 : (State.reset.memWrite 0xFF41 0x20).irq.ifl.getLsbD 1 = true := by
  decide +kernel

/-! ## The cartridge and the launch -/

/-- The machine right after reset with `ram` bytes of external RAM and a bank controller. -/
def withCart (banks ram : Nat) (mbc : Mbc) : State :=
  { State.reset with cart := { rom := [], romBanks := banks, eram := [], ramSize := ram, battery := true, mbc } }

def mbc1Test : Mbc1 := { ramEnabled := true, bank5 := 5, bank2 := 3, mode := 1 }
def mbc3Test : Mbc3 := { ramEnabled := true, bank7 := 5, sel := 3 }
def mbc5Test : Mbc5 := { ramEnabled := true, bank9 := 0x125, rbank4 := 2 }

theorem test_V_M2 :
    ((withCart 4 0 (.mbc1 Mbc1.reset)).memWrite 0x2000 0x05).cart.romOffset 0x4000 = 0x4000 := by
  decide +kernel

theorem test_V_M4 :
    ((withCart 4 0x2000 (.mbc1 mbc1Test)).memWrite 0xA000 0x77).cart.eram = [(0, 0x77#8)] := by
  decide +kernel

/-- A 32 KiB image of 0x00 bytes but for its type and its RAM size code. -/
def image (type ramCode : Byte) : List Byte :=
  List.replicate 0x147 0#8 ++ type :: 0#8 :: ramCode :: List.replicate 0x7EB6 0#8

def launchOf (rom : List Byte) (save : Option (List Byte)) (check : Bool) : Launch :=
  { rom, save, initRam := InitRam.zero, checkHeaderChecksum := check }

theorem image_length (t c : Byte) : (image t c).length = 0x8000 := by
  rw [image, List.length_append, List.length_replicate, List.length_cons, List.length_cons,
    List.length_cons, List.length_replicate]

theorem image_type (t c : Byte) : (image t c).getD 0x0147 0#8 = t := by
  rw [image, List.getD_append_right _ _ _ _ (by rw [List.length_replicate]), List.length_replicate]
  rfl

theorem image_ramCode (t c : Byte) : (image t c).getD 0x0149 0#8 = c := by
  rw [image, List.getD_append_right _ _ _ _ (by rw [List.length_replicate]; decide),
    List.length_replicate]
  rfl

/-- The construction from the blank image is the machine right after reset (log entry 2). -/
theorem new_blank : new (launchOf (image 0x00 0x00) none false) = .ok State.reset := by
  have hz : image 0x00 0x00 = List.replicate 0x8000 0#8 := by
    have h (n : Nat) : 0#8 :: List.replicate n 0#8 = List.replicate (n + 1) 0#8 := rfl
    show List.replicate 0x147 0#8 ++ 0#8 :: 0#8 :: 0#8 :: List.replicate 0x7EB6 0#8 = _
    rw [h, h, h]
    exact List.replicate_append_replicate.trans (congrArg (fun n => List.replicate n 0#8) (by decide))
  have hc : (launchOf (image 0x00 0x00) none false).cart = .ok Cart.blank := by
    have hr : Cells.ofList 0 (image 0x00 0x00) = [] := by rw [hz]; exact Cells.ofList_replicate 0 0x8000
    have ht : cartType? 0x00 = some { mbc := .romOnly, ram := false, battery := false } := rfl
    unfold Launch.cart launchOf
    rw [image_length, image_type, ht, if_neg (by decide), Bool.false_and,
      if_neg Bool.false_ne_true]
    dsimp only [CartType.ramSize?]
    rw [if_neg Bool.false_ne_true]
    dsimp only [CartType.cart]
    rw [hr, image_length]
    rfl
  unfold new
  rw [hc]
  rfl

/-! ## Witnesses: states and operands that meet each statement's hypotheses together -/

theorem witness_DecodeAfterEncode :
    (Instr.ld_HL_d16 0xFFFF).wellFormed = true ∧ (Instr.bit_7_atHL).wellFormed = true := by decide

theorem witness_EncodeAfterDecode : decode [0xCB#8, 0xFF#8, 0x12#8] = .ok (.set_7_A, [0x12#8]) := rfl

theorem runs_onCode (code : List Byte) : (onCode code).Runs := ⟨rfl, rfl, rfl, .inl rfl⟩

theorem witness_StepRunsDecodedInstr :
    let s := onCode [0x3E#8, 0x42#8]
    s.Runs ∧ s.cpu.haltBug = false ∧
    decode [s.memRead s.cpu.pc, s.memRead (s.cpu.pc + 1#16), s.memRead (s.cpu.pc + 2#16)] =
      .ok (.ld_A_d8 0x42#8, [0x00#8]) := by
  intro s
  have h0 : s.memRead s.cpu.pc = 0x3E#8 := by decide +kernel
  have h1 : s.memRead (s.cpu.pc + 1#16) = 0x42#8 := by decide +kernel
  have h2 : s.memRead (s.cpu.pc + 2#16) = 0x00#8 := by decide +kernel
  rw [h0, h1, h2]
  exact ⟨runs_onCode _, rfl, rfl⟩

/-- The HALT bug at an opcode of each length, and at the prefix. -/
theorem witness_HaltBugRepeatsByte :
    let s (b : Byte) : State := { onCode [b] with cpu.haltBug := true }
    ∀ p ∈ [(0x3C#8, 1), (0x3E#8, 2), (0xC3#8, 3), (0xCB#8, 2)],
      (s p.1).cpu.haltBug = true ∧ (s p.1).memRead (s p.1).cpu.pc = p.1 ∧ instrLength p.1 = p.2 := by
  decide +kernel

/-- The four clauses: stopped or halted, with no wake-up condition and with one. -/
theorem witness_IdleAndWakeUp :
    let stopped : State := { State.reset with cpu.stopped := true, joypad.sel := 0b01 }
    let pressed : State := { stopped with joypad.pressed.start := true }
    let halted : State := { State.reset with cpu.halted := true }
    let waking : State := { halted with irq.ie := 0x01 }
    (stopped.cpu.fault = none ∧ stopped.cpu.stopped = true ∧ stopped.joypad.lines = 0xF#4) ∧
    (pressed.cpu.fault = none ∧ pressed.cpu.stopped = true ∧ pressed.joypad.lines ≠ 0xF#4) ∧
    (halted.cpu.fault = none ∧ halted.cpu.stopped = false ∧ halted.cpu.halted = true ∧
      halted.pending = 0#5) ∧
    (waking.cpu.fault = none ∧ waking.cpu.stopped = false ∧ waking.cpu.halted = true ∧
      waking.pending ≠ 0#5) := by decide +kernel

/-- A NOP after EI, an EI, and a RETI; and with IME set, an EI and an illegal opcode. -/
theorem witness_DelayedEnable :
    let s : State := { onCode [0x00#8] with cpu.eiPending := true }
    (s.Runs ∧ exec s.fetchInstr.1 s.fetchInstr.2 = .next (s.fetchInstr.2.charge 4) ∧
      (s.fetchInstr.2.charge 4).cpu.fault = none ∧ s.cpu.eiPending = true ∧
      (s.fetchInstr.2.charge 4).cpu.eiPending = true) ∧
    ((onCode [0xFB#8]).cpu.eiPending = false ∧
      ∃ t, exec (onCode [0xFB#8]).fetchInstr.1 (onCode [0xFB#8]).fetchInstr.2 = .next t ∧
        t.cpu.fault = none) ∧
    (s.cpu.ime = false ∧ s.cpuStep.1.cpu.ime = true) ∧
    ((onCode [0xD9#8]).cpu.ime = false ∧ (onCode [0xD9#8]).cpuStep.1.cpu.ime = true) ∧
    (let on (b : Byte) : State := { onCode [b] with cpu.ime := true };
      (on 0xFB#8).cpu.ime = true ∧ (∃ t, step (on 0xFB#8) = .next t) ∧
      step (on 0xD3#8) = .fault (.illegalOpcode 0xC000 0xD3)) :=
  ⟨⟨⟨rfl, rfl, rfl, .inl rfl⟩, rfl, rfl, rfl, rfl⟩, ⟨rfl, _, rfl, rfl⟩, ⟨rfl, rfl⟩, ⟨rfl, rfl⟩,
    rfl, next_of (by decide +kernel), fault_of (by decide +kernel)⟩

/-- Awake with the HALT bug, and stopped with a line low. -/
theorem witness_InterruptService :
    let s : State := { State.reset with cpu.ime := true, irq.ie := 0x1F, cpu.haltBug := true }
    let u : State :=
      { s with cpu.stopped := true, joypad.sel := 0b01, joypad.pressed.start := true }
    (s.cpu.fault = none ∧ (s.cpu.stopped = true → s.joypad.lines ≠ 0xF#4) ∧ s.cpu.ime = true ∧
      s.pending ≠ 0#5) ∧
    (u.cpu.fault = none ∧ (u.cpu.stopped = true → u.joypad.lines ≠ 0xF#4) ∧ u.cpu.ime = true ∧
      u.pending ≠ 0#5) := by decide +kernel

theorem witness_StepCosts :
    [0x00#8, 0x86#8, 0xF0#8, 0xC5#8, 0x08#8, 0xCD#8].map (fun b => (onCode [b]).cpuStep.2) =
      [.ok 4, .ok 8, .ok 12, .ok 16, .ok 20, .ok 24] := by decide +kernel

/-- A stack in WRAM, and one across the end of HRAM's lowest byte. -/
theorem witness_StackRoundTrip :
    let ok (sp : Word) (c d : MemCell) : Prop :=
      let s : State := { State.reset with cpu.sp := sp }
      s.cell? (s.cpu.sp - 1#16) = some c ∧ s.cell? (s.cpu.sp - 2#16) = some d ∧ c ≠ d ∧
        s.blocked (s.cpu.sp - 1#16) = false ∧ s.blocked (s.cpu.sp - 2#16) = false
    ok 0xE000 (.wram 0x1FFF) (.wram 0x1FFE) ∧ ok 0xFFFF (.hram 0x7E) (.hram 0x7D) := by
  decide +kernel

theorem witness_DecimalArithmetic :
    let s (x : Nat) : State := { State.reset with cpu.a := bcd x }
    (0 < 100 ∧ (s 0).cpu.a = bcd 0) ∧ (99 < 100 ∧ (s 99).cpu.a = bcd 99) := by decide +kernel

/-- An illegal opcode about to be fetched, without and with the HALT bug, a recorded fault, and a step
that faults. -/
theorem witness_IllegalOpcodes :
    ((0xD3#8, Instr.illegal_D3) ∈ illegalForms ∧ (onCode [0xD3#8]).Runs ∧
      (onCode [0xD3#8]).cpu.haltBug = false ∧
      (onCode [0xD3#8]).memRead (onCode [0xD3#8]).cpu.pc = 0xD3#8) ∧
    (let s : State := { onCode [0xD3#8] with cpu.haltBug := true };
      s.Runs ∧ s.cpu.haltBug = true ∧ s.memRead s.cpu.pc = 0xD3#8) ∧
    ({ State.reset with cpu.fault := some (.illegalOpcode 0x0100 0xFD) } : State).cpu.fault =
      some (.illegalOpcode 0x0100 0xFD) ∧
    (step (onCode [0xFD#8]) = .fault (.illegalOpcode 0xC000 0xFD) ∧
      (onCode [0xFD#8]).cpu.fault = none) :=
  ⟨⟨by decide, runs_onCode _, rfl, by decide +kernel⟩,
    ⟨⟨rfl, rfl, rfl, .inl rfl⟩, rfl, by decide +kernel⟩, rfl, fault_of (by decide +kernel), rfl⟩

/-- The ends of each range, with the DMA in flight and without. -/
theorem witness_BusDecoding :
    let on : State := { State.reset with dma.active := true }
    (on.dma.active = true ∧ ∀ n ∈ [0x0000, 0xFF7F, 0xFFFF], ¬(0xFF80 ≤ n ∧ n ≤ 0xFFFE) ∧ n ≠ 0xFF46) ∧
    State.reset.dma.active = false ∧
    (∀ n ∈ [0x0000, 0x7FFF], n < 0x8000) ∧ (∀ n ∈ [0x8000, 0x9FFF], 0x8000 ≤ n ∧ n < 0xA000) ∧
    (∀ n ∈ [0xC000, 0xDFFF], 0xC000 ≤ n ∧ n < 0xE000) ∧
    (∀ n ∈ [0xE000, 0xFDFF], 0xE000 ≤ n ∧ n < 0xFE00) ∧
    (∀ n ∈ [0xFE00, 0xFE9F], 0xFE00 ≤ n ∧ n < 0xFEA0) ∧
    (∀ n ∈ [0xFEA0, 0xFEFF], 0xFEA0 ≤ n ∧ n < 0xFF00) ∧
    (∀ n ∈ [0xFF03, 0xFF08, 0xFF0E, 0xFF10, 0xFF3F, 0xFF4C, 0xFF7F],
      n = 0xFF03 ∨ (0xFF08 ≤ n ∧ n ≤ 0xFF0E) ∨ (0xFF10 ≤ n ∧ n ≤ 0xFF3F) ∨
        (0xFF4C ≤ n ∧ n ≤ 0xFF7F)) ∧
    (∀ n ∈ [0xFF80, 0xFFFE], 0xFF80 ≤ n ∧ n < 0xFFFF) := by decide +kernel

/-- A stack in WRAM, without a DMA in flight and with one. -/
def stackTest (dma : Bool) : State := { State.reset with cpu.sp := 0xDFFE, dma.active := dma }

/-- A push read at another byte, a store that the DMA blocks, a form that stores nothing, and a byte
stored to a memory cell. -/
theorem witness_StoreFrame :
    ((∃ t, exec .push_BC (stackTest false) = .next t) ∧ (∀ n, Instr.push_BC ≠ .stop n) ∧
      ∀ a ∈ storeAddrs .push_BC (stackTest false), (stackTest false).blocked a = true ∨
        ∃ c, (stackTest false).cell? a = some c ∧ (stackTest false).cell? 0xDFFE ≠ some c) ∧
    ((∃ t, exec .push_BC (stackTest true) = .next t) ∧
      ∀ a ∈ storeAddrs .push_BC (stackTest true), (stackTest true).blocked a = true) ∧
    ((∃ t, exec .cp_atHL (stackTest false) = .next t) ∧ storeAddrs .cp_atHL (stackTest false) = []) ∧
    ((stackTest false).cell? 0xFE9F = some (.oam 159) ∧ (stackTest false).blocked 0xFE9F = false) := by
  have h1 : (stackTest false).cell? 0xDFFD = some (.wram 0x1FFD) ∧
      (stackTest false).cell? 0xDFFE ≠ some (.wram 0x1FFD) := by decide +kernel
  have h2 : (stackTest false).cell? 0xDFFC = some (.wram 0x1FFC) ∧
      (stackTest false).cell? 0xDFFE ≠ some (.wram 0x1FFC) := by decide +kernel
  have hs (d : Bool) : storeAddrs .push_BC (stackTest d) = [0xDFFD#16, 0xDFFC#16] := by
    cases d <;> decide +kernel
  refine ⟨⟨exec_next _ _, (fun n h => nomatch h), ?_⟩, ⟨exec_next _ _, ?_⟩, ⟨exec_next _ _, rfl⟩, ?_⟩
  · rw [hs]
    intro a ha
    rcases List.mem_cons.mp ha with rfl | ha
    · exact .inr ⟨_, h1⟩
    · cases List.mem_singleton.mp ha
      exact .inr ⟨_, h2⟩
  · rw [hs]
    intro a ha
    rcases List.mem_cons.mp ha with rfl | ha
    · decide +kernel
    · cases List.mem_singleton.mp ha
      decide +kernel
  · decide +kernel

theorem witness_dma_inactive : State.reset.dma.active = false := rfl

/-- A step that goes on, with each kind of cartridge. -/
theorem witness_UntouchedState :
    (∃ t, step (onCode [0x00#8]) = .next t) ∧ (onCode [0x00#8]).cart.mbc = .romOnly ∧
    (∃ t, step (withCart 4 0x2000 (.mbc1 mbc1Test)) = .next t) ∧
    (∃ t, step (withCart 4 0x2000 (.mbc3 mbc3Test)) = .next t) ∧
    (∃ t, step (withCart 4 0x2000 (.mbc5 mbc5Test)) = .next t) :=
  ⟨next_of (by decide +kernel), rfl, next_of (by decide +kernel), next_of (by decide +kernel),
    next_of (by decide +kernel)⟩

/-- Each controller, with its RAM open and closed; the ends of each range are those of
`witness_cart_ranges`. -/
theorem witness_Mbc1Banks :
    let s := withCart 4 0x2000 (.mbc1 mbc1Test)
    s.cart.mbc = .mbc1 mbc1Test ∧ s.dma.active = false ∧
    (mbc1Test.ramEnabled = true ∧ 0 < s.cart.ramSize) ∧
    ¬(Mbc1.reset.ramEnabled = true ∧ 0 < s.cart.ramSize) := by decide +kernel

theorem witness_Mbc3Banks :
    let s := withCart 4 0x2000 (.mbc3 mbc3Test)
    s.cart.mbc = .mbc3 mbc3Test ∧ s.dma.active = false ∧
    (mbc3Test.ramEnabled = true ∧ mbc3Test.sel.toNat ≤ 3 ∧ 0 < s.cart.ramSize) ∧
    ¬({ mbc3Test with sel := 4 }.ramEnabled = true ∧ (4#8).toNat ≤ 3 ∧ 0 < s.cart.ramSize) := by
  decide +kernel

theorem witness_Mbc5AndRomOnly :
    let s := withCart 4 0x2000 (.mbc5 mbc5Test)
    (s.cart.mbc = .mbc5 mbc5Test ∧ s.dma.active = false ∧
      (mbc5Test.ramEnabled = true ∧ 0 < s.cart.ramSize) ∧
      ¬(Mbc5.reset.ramEnabled = true ∧ 0 < s.cart.ramSize)) ∧
    (State.reset.cart.mbc = .romOnly ∧ State.reset.dma.active = false ∧
      State.reset.cart.ramSize = 0) ∧
    ((withCart 2 0x2000 .romOnly).cart.mbc = .romOnly ∧ 0 < (withCart 2 0x2000 .romOnly).cart.ramSize) := by
  decide +kernel

theorem witness_cart_ranges :
    (∀ n ∈ [0x0000, 0x3FFF], n < 0x4000) ∧ (∀ n ∈ [0x4000, 0x7FFF], 0x4000 ≤ n ∧ n < 0x8000) ∧
    (∀ n ∈ [0xA000, 0xBFFF], 0xA000 ≤ n ∧ n < 0xC000) ∧ (∀ n ∈ [0x0000, 0x1FFF], n < 0x2000) ∧
    (∀ n ∈ [0x2000, 0x2FFF], 0x2000 ≤ n ∧ n < 0x3000) ∧
    (∀ n ∈ [0x3000, 0x3FFF], 0x3000 ≤ n ∧ n < 0x4000) ∧
    (∀ n ∈ [0x4000, 0x5FFF], 0x4000 ≤ n ∧ n < 0x6000) ∧
    (∀ n ∈ [0x6000, 0x7FFF], 0x6000 ≤ n ∧ n < 0x8000) := by decide

theorem witness_TimerOverflow :
    let s := timerTest 0x000F 0xFF
    s.timer.tima = 0xFF#8 ∧ s.timer.reloadCnt = 0 ∧ s.timer.signal = true ∧
    ({ s.timer with tcount := s.timer.tcount + 1#16 } : Timer).signal = false := by decide +kernel

theorem witness_TimerRate :
    let s := timerTest 0x0008 0xFE
    s.timer.tac.getLsbD 2 = true ∧ s.timer.reloadCnt = 0 ∧ s.timer.tima ≠ 0xFF#8 := by decide +kernel

/-- The last source page of the last clause, the first and the last byte, the last T-cycle in flight. -/
theorem witness_DmaCopies : 0xFE#8 ≠ 0xFF#8 ∧ 0 < 160 ∧ 159 < 160 ∧ 639 < 640 := by decide

/-- A line that falls, a line that does not, and an index that is no button. -/
theorem witness_JoypadLines :
    let up : Joypad := { State.reset.joypad with sel := 0b10 }
    let down : Joypad := { up with pressed.down := true }
    (∃ k, k < 4 ∧ up.lines.getLsbD k = true ∧ down.lines.getLsbD k = false) ∧
    (¬∃ k, k < 4 ∧ down.lines.getLsbD k = true ∧ up.lines.getLsbD k = false) ∧ 8 ≤ 8 :=
  ⟨⟨3, by decide⟩, by decide, Nat.le_refl 8⟩

/-- Position 0, and the position before the VBlank event. -/
theorem witness_VblankTiming :
    let last : State := { State.reset with ppu.ly := 143, ppu.dot := 455 }
    (State.reset.ppu.lcdOn = true ∧ State.reset.ppu.ly.toNat < 154 ∧ State.reset.ppu.dot < 456) ∧
    (last.ppu.lcdOn = true ∧ last.ppu.ly.toNat < 154 ∧ last.ppu.dot < 456 ∧
      (last.ppu.position + 1) % 70224 = 65664) := by decide +kernel

theorem witness_StatRisingEdge :
    State.reset.ppu.lcdOn = true ∧ ({ State.reset.ppu with lcdc := 0x11 } : Ppu).lcdOn = false := by
  decide

/-- Off, on, and neither. -/
theorem witness_LcdSwitch :
    State.reset.dma.active = false ∧
    (State.reset.ppu.lcdc.getLsbD 7 = true ∧ (0x11#8).getLsbD 7 = false) ∧
    ((0x11#8).getLsbD 7 = false ∧ (0x91#8).getLsbD 7 = true) := by decide

/-- Eleven sprites on line 0: the eleventh is passed over. -/
theorem witness_SpriteSelection :
    let s : State := { State.reset with oam := (List.range 11).map fun k => (4 * k, 0x10#8) }
    (s.oam.read (4 * 10)).toNat = 16 ∧ 10 ∉ s.selectSprites 0 ∧ 9 ∈ s.selectSprites 0 := by
  decide +kernel

/-- A T-cycle to dot 80 of the first and of the last visible line, one to dot 80 of a VBlank line, one
to the start of a frame; the window covers pixel 0, and it covers none. -/
theorem witness_RenderLine :
    let spot (ly : Byte) (dot : Nat) : State := { State.reset with ppu.ly := ly, ppu.dot := dot }
    let s : State := { State.reset with ppu.lcdc := 0xF1 }
    (∀ ly ∈ [0#8, 143#8],
      (spot ly 79).ppu.lcdOn = true ∧ (spot ly 79).ppu.ly.toNat < 144 ∧ (spot ly 79).ppu.dot = 79) ∧
    (¬(spot 144#8 79).ppu.ly.toNat < 144) ∧
    ((spot 153#8 455).ppu.lcdOn = true ∧ (spot 153#8 455).ppu.ly = 153#8 ∧ (spot 153#8 455).ppu.dot = 455 ∧
      ¬(spot 153#8 455).ppu.dot = 79) ∧
    (∃ x, x < 160 ∧ s.windowCovers x 0 = true) ∧
    (∀ x, x < 160 → State.reset.windowCovers x 0 = false) :=
  ⟨by decide, by decide, by decide, ⟨0, by decide +kernel⟩, by decide +kernel⟩

/-- In the window from its first column on, in the background, and with the background off. -/
theorem witness_BackgroundAndWindow :
    let s : State := { State.reset with ppu.lcdc := 0xF1, ppu.wx := 166 }
    (s.ppu.lcdc.getLsbD 5 = true ∧ s.ppu.lcdc.getLsbD 0 = true ∧ s.ppu.wy.toNat ≤ 0 ∧
      (s.ppu.wx.toNat : Int) - 7 ≤ 159) ∧
    (¬((s.ppu.wx.toNat : Int) - 7 ≤ 158) ∧ s.ppu.lcdc.getLsbD 0 = true) ∧
    (0x90#8).getLsbD 0 = false := by decide +kernel

/-- A winner, no sprite drawn, sprites off, a sprite behind the background, and a sprite of height 16 on
its last line, in its second tile. -/
theorem witness_SpritePriority :
    let s := beforeLine 0x93 [(0x0010, 0xFF)] [(0, 0x10), (1, 0x08), (2, 0x01), (3, 0x80)]
    let tall := beforeLine 0x97 [(0x003F, 0x80)] [(0, 0x10), (1, 0x08), (2, 0x02)]
    (s.ppu.lcdc.getLsbD 1 = true ∧
      s.spritePixel [0] 0 0 = some { x := 8, k := 0, p := 1#2, attr := 0x80#8 } ∧
      s.spriteAt 0 0 0 = some { x := 8, k := 0, p := 1#2, attr := 0x80#8 } ∧
      ((s.oam.read (4 * 0)).toNat : Int) - 16 ≤ 0 ∧ (0 : Int) < (s.oam.read (4 * 0)).toNat - 16 + 8) ∧
    (tall.spriteAt 0 15 0 = some { x := 8, k := 0, p := 2#2, attr := 0x00#8 } ∧
      ((tall.oam.read (4 * 0)).toNat : Int) - 16 ≤ 15 ∧
      (15 : Int) < (tall.oam.read (4 * 0)).toNat - 16 + 16) ∧
    s.spritePixel [0] 8 0 = none ∧ State.reset.ppu.lcdc.getLsbD 1 = false ∧
    ((0x80#8).getLsbD 7 = true ∧ (1#2) ≠ 0#2) := by decide +kernel

/-- One launch for each clause: a length that is illegal, a checksum that fails, a type that is not
supported, a RAM size code out of range, a save that is refused, one that is accepted, and no save with
a type of each controller variant. -/
theorem witness_LoadChecks :
    (launchOf [] none false).rom.length < 0x8000 ∧
    ((image 0x00 0x00).length = 0x8000 ∧ 0x8000 % 0x4000 = 0) ∧
    headerChecksum (image 0x00 0x00) ≠ (image 0x00 0x00).getD 0x014D 0#8 ∧
    ((image 0x05 0x00).getD 0x0147 0#8).toNat = 0x05 ∧
    (((image 0x02 0x06).getD 0x0147 0#8).toNat = 0x02 ∧
      6 ≤ ((image 0x02 0x06).getD 0x0149 0#8).toNat) ∧
    (((image 0x03 0x01).getD 0x0147 0#8).toNat = 0x03 ∧
      ((image 0x03 0x01).getD 0x0149 0#8).toNat = 0x01 ∧ ([] : List Byte).length ≠ 2048 ∧
      (List.replicate 2048 0#8).length = 2048) ∧
    ∀ type ∈ [0x09#8, 0x03#8, 0x13#8, 0x1E#8],
      (launchOf (image type 0x05) none false).save = none ∧ (image type 0x05).length = 0x8000 ∧
      (image type 0x05).getD 0x0147 0#8 = type ∧ ((image type 0x05).getD 0x0149 0#8).toNat < 6 := by
  refine ⟨by decide, ⟨image_length _ _, by decide⟩, by decide +kernel, ?_, ⟨?_, ?_⟩,
    ⟨?_, ?_, by decide, List.length_replicate⟩, fun type _ => ⟨rfl, image_length _ _, image_type _ _, ?_⟩⟩
  all_goals simp only [image_type, image_ramCode]; decide

theorem witness_LaunchIsValid :
    let l := launchOf (image 0x00 0x00) none false
    new l = .ok State.reset ∧ l.initRam.vram.wf = true ∧ l.initRam.wram.wf = true ∧
      l.initRam.oam.wf = true ∧ l.initRam.hram.wf = true ∧ l.initRam.eram.wf = true :=
  ⟨new_blank, rfl, rfl, rfl, rfl, rfl⟩

/-- A cartridge with a battery, a cartridge without, and saves of a wrong and of the right length. -/
theorem witness_SaveRoundTrip :
    ((withCart 2 2048 .romOnly).cart.Inv ∧ (withCart 2 2048 .romOnly).cart.battery = true) ∧
    (Cart.blank.Inv ∧ Cart.blank.battery = false) ∧
    ([] : List Byte).length ≠ (withCart 2 2048 .romOnly).cart.ramSize ∧
    (List.replicate 2048 0#8).length = (withCart 2 2048 .romOnly).cart.ramSize :=
  ⟨⟨⟨by decide, ⟨rfl, rfl⟩, ⟨rfl, rfl⟩, trivial⟩, rfl⟩,
    ⟨⟨by decide, ⟨rfl, rfl⟩, ⟨rfl, rfl⟩, trivial⟩, rfl⟩, by decide, List.length_replicate⟩

/-- A state that meets the invariant and whose step goes on: for `FrameEnds` and
`StepKeepsInvariant`. -/
theorem witness_StepKeepsInvariant :
    (onCode [0x3C#8]).Inv ∧ ∃ t, step (onCode [0x3C#8]) = .next t := by
  refine ⟨⟨rfl, Nat.zero_le 4, rfl, ?_, ⟨Nat.zero_le _, fun h => by cases h⟩, ?_, ?_⟩, next_of (by decide +kernel)⟩
  · refine ⟨by decide, by decide, by decide, rfl, rfl, by decide, ?_, fun _ => rfl, ?_, ⟨rfl, rfl⟩,
      ⟨rfl, rfl⟩⟩
    · intro k hk
      cases hk
    · intro h
      cases h
  · exact ⟨by decide, ⟨rfl, rfl⟩, ⟨rfl, rfl⟩, trivial⟩
  · exact ⟨⟨rfl, rfl⟩, ⟨rfl, rfl⟩, ⟨rfl, rfl⟩, ⟨rfl, rfl⟩⟩

end Sys2Proof.Tests
end

/-! SUPPORT and proofs. The statements of 10_state.md: the invariant, the register file and the register
map. -/

section

namespace Sys2Proof.Machine

/-! ## The invariant -/

/-- A CPU step keeps the invariant, whatever it answers: an instruction does by `keeps_inv`, and IF is in
no part of it. -/
theorem State.cpuStep_inv {s : State} (h : s.Inv) : s.cpuStep.1.Inv :=
  cpuStep_keeps keeps_inv (fun _ _ h => ⟨h.cpu, h.timer, h.serial, h.ppu, h.dma, h.cart,
    ⟨h.mem.vram, h.mem.wram, h.mem.oam, h.mem.hram⟩⟩) h

end Sys2Proof.Machine

open Sys2Proof.Machine in
/-- Settles O60: a step that goes on is a CPU step and then T-cycles of the peripherals, and each of the
two keeps the invariant. -/
theorem stepKeepsInvariant : Obligations.StepKeepsInvariant := by
  intro s t hs hstep
  obtain ⟨n, -, rfl⟩ := step_next hstep
  exact State.advance_inv n (State.cpuStep_inv hs)

namespace Sys2Proof.Machine

/-! ## The register file -/

/-- A write of a pair is read back, and no other pair of its group shares storage with it. -/
theorem State.readRR_writeRR (s : State) (rr q : RR) (w : Word) :
    (s.writeRR rr w).readRR q = if q = rr then w else s.readRR q := by
  cases rr <;> cases q <;> simp [State.writeRR, State.readRR, State.bc, State.de, State.hl]

/-- The fields that a write of a register may change (10_state.md R20). -/
theorem State.setReg8_frame (s : State) (r : Reg8) (v : Byte) :
    ∃ a b c d e h l, s.setReg8 r v =
      { s with cpu := { s.cpu with a := a, b := b, c := c, d := d, e := e, h := h, l := l } } := by
  cases r <;> exact ⟨_, _, _, _, _, _, _, rfl⟩

/-- The fields that a write of a pair may change (30_encoding.md R135). -/
theorem State.writeRR_frame (s : State) (rr : RR) (w : Word) :
    ∃ b c d e h l sp, s.writeRR rr w =
      { s with cpu := { s.cpu with b := b, c := c, d := d, e := e, h := h, l := l, sp := sp } } := by
  cases rr <;> exact ⟨_, _, _, _, _, _, _, rfl⟩

end Sys2Proof.Machine

open Sys2Proof Sys2Proof.Machine in
/-- Settles O10: the laws of the registers, of the pairs and of AF, then the reset values. -/
theorem registerFile : Obligations.RegisterFile := by
  refine ⟨fun s r v => ?_, fun s rr w => ?_, fun s => ?_, rfl, rfl, rfl, rfl, rfl, rfl, rfl, rfl⟩
  · exact ⟨fun q => State.reg8_setReg8 s r q v, State.setReg8_frame s r v, rfl, rfl, rfl, rfl⟩
  · exact ⟨fun q => State.readRR_writeRR s rr q w, State.writeRR_frame s rr w⟩
  · exact ⟨toNat_pair .., toNat_pair .., toNat_pair .., rfl, rfl, rfl, rfl, toNat_pair ..⟩

namespace Sys2Proof.Machine

/-! ## The registers on the bus -/

/-- The address of a register (10_state.md R57). -/
def IoReg.addr : IoReg → Word
  | .p1 => 0xFF00#16
  | .sb => 0xFF01#16
  | .sc => 0xFF02#16
  | .div => 0xFF04#16
  | .tima => 0xFF05#16
  | .tma => 0xFF06#16
  | .tac => 0xFF07#16
  | .ifl => 0xFF0F#16
  | .lcdc => 0xFF40#16
  | .stat => 0xFF41#16
  | .scy => 0xFF42#16
  | .scx => 0xFF43#16
  | .ly => 0xFF44#16
  | .lyc => 0xFF45#16
  | .dma => 0xFF46#16
  | .bgp => 0xFF47#16
  | .obp0 => 0xFF48#16
  | .obp1 => 0xFF49#16
  | .wy => 0xFF4A#16
  | .wx => 0xFF4B#16

@[simp] theorem decodeAddr_addr (r : IoReg) : decodeAddr r.addr = .io (some r) := by
  cases r <;> rfl

theorem State.busRead_addr (s : State) (r : IoReg) : s.busRead r.addr = s.readIo r := by
  simp [State.busRead]

theorem State.busWrite_addr (s : State) (r : IoReg) (v : Byte) :
    s.busWrite r.addr v = s.writeIo r v := by
  simp [State.busWrite]

/-- With no DMA in flight no access is blocked. -/
theorem State.blocked_of_idle {s : State} (hd : s.dma.active = false) (a : Word) :
    s.blocked a = false := by
  simp [State.blocked, hd]

theorem State.memRead_of_idle {s : State} (hd : s.dma.active = false) (a : Word) :
    s.memRead a = s.busRead a := by
  simp [State.memRead, State.blocked_of_idle hd]

theorem State.memWrite_of_idle {s : State} (hd : s.dma.active = false) (a : Word) (v : Byte) :
    s.memWrite a v = s.busWrite a v := by
  simp [State.memWrite, State.blocked_of_idle hd]

/-- With no DMA in flight a read of a register's address reads the register. -/
theorem State.memRead_addr {s : State} (hd : s.dma.active = false) (r : IoReg) :
    s.memRead r.addr = s.readIo r :=
  (State.memRead_of_idle hd _).trans (s.busRead_addr r)

/-- With no DMA in flight a write to a register's address writes the register. -/
theorem State.memWrite_addr {s : State} (hd : s.dma.active = false) (r : IoReg) (v : Byte) :
    s.memWrite r.addr v = s.writeIo r v :=
  (State.memWrite_of_idle hd _ _).trans (s.busWrite_addr r v)

/-- Only a write to FF46 starts a DMA (60_exceptions.md R340). -/
theorem State.writeIo_dma (s : State) {r : IoReg} (hr : r ≠ .dma) (v : Byte) :
    (s.writeIo r v).dma = s.dma := by
  cases r with
  | dma => exact absurd rfl hr
  | _ => simp [State.writeIo]

/-- The write of a register leaves that register open to the CPU: FF46 too, which the DMA block does not
close (20_memory.md R72). -/
theorem State.blocked_writeIo {s : State} (hd : s.dma.active = false) (r : IoReg) (v : Byte) :
    (s.writeIo r v).blocked r.addr = false := by
  by_cases hr : r = .dma
  · subst hr
    simp [State.blocked, dmaReaches, IoReg.addr]
  · exact State.blocked_of_idle ((congrArg Dma.active (s.writeIo_dma hr v)).trans hd) _

/-- What a register's address reads as after a CPU write to it. -/
theorem State.memRead_memWrite_addr {s : State} (hd : s.dma.active = false) (r : IoReg) (v : Byte) :
    (s.memWrite r.addr v).memRead r.addr = (s.writeIo r v).readIo r := by
  rw [State.memWrite_addr hd, State.memRead, State.blocked_writeIo hd, State.busRead_addr]
  rfl

theorem State.memRead_memWrite_ie {s : State} (hd : s.dma.active = false) (v : Byte) :
    (s.memWrite 0xFFFF#16 v).memRead 0xFFFF#16 = v := by
  have hw : s.memWrite 0xFFFF#16 v = { s with irq.ie := v } := State.memWrite_of_idle hd _ _
  rw [hw]
  exact State.memRead_of_idle (s := { s with irq.ie := v }) hd _

/-! ## What each register reads as after its write -/

/-- A falling edge counts TIMA up, and leaves the counter, TMA and TAC. -/
theorem Timer.edge_other (old : Bool) (t : Timer) :
    (Timer.edge old t).tcount = t.tcount ∧ (Timer.edge old t).tma = t.tma ∧
      (Timer.edge old t).tac = t.tac := by
  unfold Timer.edge Timer.increment
  split_ifs <;> exact ⟨rfl, rfl, rfl⟩

@[simp] theorem Timer.resetCounter_tcount (t : Timer) : t.resetCounter.tcount = 0#16 :=
  (Timer.edge_other _ _).1

@[simp] theorem Timer.writeTac_tac (t : Timer) (v : Byte) : (t.writeTac v).tac = v.setWidth 3 :=
  (Timer.edge_other _ _).2.2

/-- LCDC takes the byte written, whether the LCD goes on, goes off or stays as it is. -/
@[simp] theorem Ppu.writeLcdc_lcdc (p : Ppu) (v : Byte) : (p.writeLcdc v).lcdc = v := by
  unfold Ppu.writeLcdc
  dsimp only
  split_ifs <;> rfl

/-- The registers that store the whole byte and read it back. -/
def IoReg.wholeByte : IoReg → Bool
  | .p1 | .sc | .div | .tac | .ifl | .stat | .ly => false
  | _ => true

theorem State.readIo_writeIo_wholeByte (s : State) (v : Byte) {r : IoReg} (hr : r.wholeByte = true) :
    (s.writeIo r v).readIo r = v := by
  cases r with
  | p1 | sc | div | tac | ifl | stat | ly => simp [IoReg.wholeByte] at hr
  | lcdc => simp [State.writeIo, State.readIo, Ppu.latchStat]
  | lyc => simp [State.writeIo, State.readIo, Ppu.latchStat, Ppu.writeLyc, Ppu.compareLy]
  | _ => rfl

theorem State.memRead_memWrite_wholeByte {s : State} (hd : s.dma.active = false) (v : Byte) (r : IoReg)
    (hr : r.wholeByte = true) : (s.memWrite r.addr v).memRead r.addr = v :=
  (State.memRead_memWrite_addr hd r v).trans (s.readIo_writeIo_wholeByte v hr)

/-- P1's high bits: 7-6 read 1, 5-4 as written, above the lines (10_state.md R39). -/
theorem Joypad.read_write_high (j : Joypad) (v : Byte) :
    (j.write v).read &&& 0xF0#8 = 0xC0#8 ||| (v &&& 0x30#8) := by
  refine BitVec.eq_of_getLsbD_eq fun i hi => ?_
  simp only [Joypad.read, Joypad.write, BitVec.getLsbD_append, BitVec.getLsbD_or, BitVec.getLsbD_and]
  interval_cases i <;> simp

/-- TAC: bits 7-3 read 1 (10_state.md R38). -/
theorem Timer.readTac_writeTac (t : Timer) (v : Byte) :
    (t.writeTac v).readTac = 0xF8#8 ||| (v &&& 0x07#8) := by
  rw [Timer.readTac, Timer.writeTac_tac]
  revert v
  decide +kernel

/-- IF: bits 7-5 read 1 (10_state.md R32). -/
theorem State.readIo_writeIo_ifl (s : State) (v : Byte) :
    (s.writeIo .ifl v).readIo .ifl = 0xE0#8 ||| (v &&& 0x1F#8) := by
  have byte : ∀ v : Byte, 0b111#3 ++ v.setWidth 5 = 0xE0#8 ||| (v &&& 0x1F#8) := by decide +kernel
  exact byte v

/-- STAT: bit 7 reads 1, bits 6-3 as written, and bits 2-0 keep what they read before (10_state.md
R42). -/
theorem Ppu.readStat_writeStat (p : Ppu) (v : Byte) :
    (p.writeStat v).readStat = 0x80#8 ||| (v &&& 0x78#8) ||| (p.readStat &&& 0x07#8) := by
  refine BitVec.eq_of_getLsbD_eq fun i hi => ?_
  simp only [Ppu.readStat, Ppu.writeStat, BitVec.getLsbD_append, BitVec.getLsbD_or, BitVec.getLsbD_and]
  interval_cases i <;> simp

@[simp] theorem Ppu.readStat_latchStat (p : Ppu) : p.latchStat.readStat = p.readStat := rfl

theorem State.readIo_writeIo_p1 (s : State) (v : Byte) :
    (s.writeIo .p1 v).readIo .p1 &&& 0xF0#8 = 0xC0#8 ||| (v &&& 0x30#8) := by
  simpa [State.writeIo, State.readIo] using s.joypad.read_write_high v

/-- SC: only bits 7 and 0 are stored, and the others read 1 (10_state.md R52). -/
theorem State.readIo_writeIo_sc (s : State) (v : Byte) :
    (s.writeIo .sc v).readIo .sc = 0x7E#8 ||| (v &&& 0x81#8) := by
  simp [State.writeIo, State.readIo, BitVec.and_assoc]

/-- DIV: any write resets the counter (10_state.md R35). -/
theorem State.readIo_writeIo_div (s : State) (v : Byte) : (s.writeIo .div v).readIo .div = 0x00#8 := by
  simp [State.writeIo, State.readIo, Timer.readDiv, hi]

theorem State.readIo_writeIo_stat (s : State) (v : Byte) :
    (s.writeIo .stat v).readIo .stat =
      0x80#8 ||| (v &&& 0x78#8) ||| (s.readIo .stat &&& 0x07#8) := by
  simpa [State.writeIo, State.readIo] using s.ppu.readStat_writeStat v

end Sys2Proof.Machine

open Sys2Proof.Machine in
/-- Settles O37: a register's address reads and writes the register, so each clause is what the register
reads as after its own write, or what that write is. -/
theorem registerReadBack : Obligations.RegisterReadBack := by
  intro s v hd
  have whole := State.memRead_memWrite_wholeByte hd v
  have back := fun r => State.memRead_memWrite_addr hd r v
  have write := fun r => State.memWrite_addr hd r v
  refine ⟨?p1, whole .sb rfl, ?sc, ?div, whole .tima rfl, whole .tma rfl, ?tac, ?ifl, whole .lcdc rfl,
    ?stat, whole .scy rfl, whole .scx rfl, write .ly, State.memRead_addr hd .ly, whole .lyc rfl,
    whole .dma rfl, whole .bgp rfl, whole .obp0 rfl, whole .obp1 rfl, whole .wy rfl, whole .wx rfl,
    State.memRead_memWrite_ie hd v, write .sb, write .sc, write .ifl, write .scy, write .scx, write .bgp,
    write .obp0, write .obp1, write .wy, write .wx, State.memWrite_of_idle hd _ _⟩
  case p1 => exact (congrArg (· &&& 0xF0#8) (back .p1)).trans (s.readIo_writeIo_p1 v)
  case sc => exact (back .sc).trans (s.readIo_writeIo_sc v)
  case div => exact (back .div).trans (s.readIo_writeIo_div v)
  case tac => exact (back .tac).trans (s.timer.readTac_writeTac v)
  case ifl => exact (back .ifl).trans (s.readIo_writeIo_ifl v)
  case stat =>
    have read : s.memRead 0xFF41#16 = s.readIo .stat := State.memRead_addr hd .stat
    rw [read]
    exact (back .stat).trans (s.readIo_writeIo_stat v)

end

/-! SUPPORT and proofs. The statements of 20_memory.md: the bus, the cartridge's controllers, and the load
and the saves of the host interface. -/

section

namespace Sys2Proof.Machine

/-! ## The decoder -/

/-- The decoder answers the region and the offset that the address lies in: `decodeAddr_spec`, the other
way round. -/
theorem decodeAddr_eq {a : Word} {r : Region} (h : r.OfAddr a.toNat) : decodeAddr a = r := by
  have ha := a.isLt
  unfold decodeAddr
  generalize a.toNat = n at h ha ⊢
  cases r <;> simp only [Region.OfAddr] at h ⊢ <;> grind

/-- Only the addresses of 10_state.md R57 have a register. -/
theorem ioReg?_eq_some {n : Nat} {r : IoReg} (h : ioReg? n = some r) : n = r.addr.toNat := by
  unfold ioReg? at h
  split at h <;> cases h <;> rfl

/-- The addresses of the I/O region that have no register (20_memory.md R83). -/
theorem ioReg?_unmapped {n : Nat}
    (h : n = 0xFF03 ∨ (0xFF08 ≤ n ∧ n ≤ 0xFF0E) ∨ (0xFF10 ≤ n ∧ n ≤ 0xFF3F) ∨ (0xFF4C ≤ n ∧ n ≤ 0xFF7F)) :
    ioReg? n = none := by
  cases hr : ioReg? n with
  | none => rfl
  | some r =>
    have hn := ioReg?_eq_some hr
    cases r <;> simp only [IoReg.addr, BitVec.toNat_ofNat] at hn <;> omega

/-- Which accesses the DMA blocks (20_memory.md R72). -/
theorem State.blocked_iff (s : State) (a : Word) :
    s.blocked a = true ↔
      s.dma.active = true ∧ ¬(0xFF80 ≤ a.toNat ∧ a.toNat ≤ 0xFFFE) ∧ a.toNat ≠ 0xFF46 := by
  simp only [State.blocked, dmaReaches, Bool.and_eq_true, Bool.not_eq_true', Bool.or_eq_false_iff,
    decide_eq_false_iff_not, Bool.and_eq_false_imp, decide_eq_true_eq, not_and, ne_eq]

theorem State.memRead_blocked {s : State} {a : Word} (hb : s.blocked a = true) : s.memRead a = 0xFF#8 :=
  if_pos hb

theorem State.memWrite_blocked {s : State} {a : Word} (hb : s.blocked a = true) (v : Byte) :
    s.memWrite a v = s :=
  if_pos hb

theorem State.memRead_open {s : State} {a : Word} (hb : s.blocked a = false) : s.memRead a = s.busRead a :=
  if_neg (ne_true_of_eq_false hb)

/-- Two addresses of one region and offset are one byte, if the DMA treats them alike. -/
theorem State.access_congr {s : State} {a b : Word} (hd : decodeAddr a = decodeAddr b)
    (hb : s.blocked a = s.blocked b) (v : Byte) :
    s.memRead a = s.memRead b ∧ s.memWrite a v = s.memWrite b v := by
  simp only [State.memRead, State.memWrite, State.busRead, State.busWrite, hd, hb, and_self]

/-- Where no device answers, a read gives 0xFF and a write is dropped, with a DMA in flight or without. -/
theorem State.access_unanswered {a : Word} (hd : decodeAddr a = .unusable ∨ decodeAddr a = .io none)
    (s : State) (v : Byte) : s.memRead a = 0xFF#8 ∧ s.memWrite a v = s := by
  obtain hd | hd := hd <;> simp [State.memRead, State.memWrite, State.busRead, State.busWrite, hd]

/-- An echo RAM address decodes as the one 0x2000 lower, and the DMA treats the two alike (20_memory.md
R73). -/
theorem State.access_echo {a : Word} (h1 : 0xE000 ≤ a.toNat) (h2 : a.toNat < 0xFE00) (s : State) (v : Byte) :
    s.memRead a = s.memRead (a - 0x2000#16) ∧ s.memWrite a v = s.memWrite (a - 0x2000#16) v := by
  have hn : (a - 0x2000#16).toNat = a.toNat - 0x2000 := by bv_omega
  apply State.access_congr
  · rw [decodeAddr_eq (a := a) (r := .wram (a.toNat - 0xE000)) ⟨by omega, .inr ⟨by omega, by omega⟩⟩,
      decodeAddr_eq (r := .wram (a.toNat - 0xE000)) ⟨by omega, .inl (by omega)⟩]
  · rw [Bool.eq_iff_iff, State.blocked_iff, State.blocked_iff, hn]
    exact and_congr_right fun _ => by omega

end Sys2Proof.Machine

open Sys2Proof.Machine in
/-- Settles O35: each clause is the one region that the decoder answers in its range, behind the DMA
block. -/
theorem busDecoding : Obligations.BusDecoding := by
  intro s a v n
  refine ⟨fun hd hram hreg => ?block, fun hopen => ?device, fun h1 h2 => s.access_echo h1 h2 v,
    fun h1 h2 => s.access_unanswered (.inl (decodeAddr_eq ⟨h1, h2⟩)) v,
    fun h => s.access_unanswered (.inr (decodeAddr_eq ⟨by omega, by omega, (ioReg?_unmapped h).symm⟩)) v⟩
  case block =>
    have hb : s.blocked a = true := (s.blocked_iff a).2 ⟨hd, hram, hreg⟩
    exact ⟨State.memRead_blocked hb, State.memWrite_blocked hb v⟩
  case device =>
    have hb : s.blocked a = false := by
      rw [Bool.eq_false_iff, ne_eq, s.blocked_iff]
      rintro ⟨hd, hram, hreg⟩
      rcases hopen with hi | hi | hi
      · simp [hd] at hi
      · exact hram hi
      · exact hreg hi
    have read {r : Region} (h : r.OfAddr n) : decodeAddr a = r := decodeAddr_eq h
    rw [State.memRead_open hb, State.busRead]
    refine ⟨fun h => ?_, fun h1 h2 => ?_, fun h1 h2 => ?_, fun h1 h2 => ?_, fun h1 h2 => ?_, fun h => ?_⟩
    · rw [read (r := .cartRom n) ⟨h, rfl⟩]
    · rw [read (r := .vram (n - 0x8000)) ⟨by omega, by omega⟩]
    · rw [read (r := .wram (n - 0xC000)) ⟨by omega, .inl (by omega)⟩]
    · rw [read (r := .oam (n - 0xFE00)) ⟨by omega, by omega⟩]
    · rw [read (r := .hram (n - 0xFF80)) ⟨by omega, by omega⟩]
    · rw [read (r := .ie) h]

namespace Sys2Proof.Machine

/-! ## The cartridge on the bus -/

section
variable {s : State} {a : Word} (hd : s.dma.active = false)
include hd

theorem State.memRead_rom (h : a.toNat < 0x8000) :
    s.memRead a = s.cart.rom.read (s.cart.romOffset a.toNat) := by
  rw [State.memRead_of_idle hd, State.busRead, decodeAddr_eq (r := .cartRom a.toNat) ⟨h, rfl⟩]

/-- A write to 0000-7FFF reaches the controller's registers and nothing else (20_memory.md R71). -/
theorem State.memWrite_rom (h : a.toNat < 0x8000) (v : Byte) :
    s.memWrite a v = { s with cart.mbc := s.cart.mbc.write a.toNat v } := by
  rw [State.memWrite_of_idle hd, State.busWrite, decodeAddr_eq (r := .cartRom a.toNat) ⟨h, rfl⟩]

/-- The RAM window over bank `r`: the array is mirrored where the bank and offset pass its size
(20_memory.md R102). -/
theorem State.ramWindow_open {r : Nat} (hr : s.cart.mbc.ramBank? = some r) (hz : 0 < s.cart.ramSize)
    (h1 : 0xA000 ≤ a.toNat) (h2 : a.toNat < 0xC000) (v : Byte) :
    s.memRead a = s.cart.eram.read ((0x2000 * r + (a.toNat - 0xA000)) % s.cart.ramSize) ∧
      s.memWrite a v = { s with
        cart.eram := s.cart.eram.write ((0x2000 * r + (a.toNat - 0xA000)) % s.cart.ramSize) v } := by
  have ho : s.cart.ramOffset? (a.toNat - 0xA000) =
      some ((0x2000 * r + (a.toNat - 0xA000)) % s.cart.ramSize) := by
    rw [Cart.ramOffset?, if_neg hz.ne', hr, Nat.mul_comm]
    rfl
  rw [State.memRead_of_idle hd, State.memWrite_of_idle hd, State.busRead, State.busWrite,
    decodeAddr_eq (r := .cartRam (a.toNat - 0xA000)) ⟨by omega, by omega⟩]
  simp only [ho, and_self]

/-- The RAM window where no bank or no array is behind it (20_memory.md R115). -/
theorem State.ramWindow_closed (h : s.cart.mbc.ramBank? = none ∨ s.cart.ramSize = 0)
    (h1 : 0xA000 ≤ a.toNat) (h2 : a.toNat < 0xC000) (v : Byte) :
    s.memRead a = 0xFF#8 ∧ s.memWrite a v = s := by
  have ho : s.cart.ramOffset? (a.toNat - 0xA000) = none := by
    rw [Cart.ramOffset?]
    obtain h | h := h <;> simp [h]
  rw [State.memRead_of_idle hd, State.memWrite_of_idle hd, State.busRead, State.busWrite,
    decodeAddr_eq (r := .cartRam (a.toNat - 0xA000)) ⟨by omega, by omega⟩]
  simp only [ho, and_self]

/-- 0000-3FFF is bank 0 on every controller. -/
theorem State.memRead_bank0 (h : a.toNat < 0x4000) : s.memRead a = s.cart.rom.read a.toNat := by
  have ho : s.cart.romOffset a.toNat = a.toNat := by
    unfold Cart.romOffset
    cases s.cart.mbc <;> simp [h, Cart.romAt]
  rw [State.memRead_rom hd (by omega), ho]

/-- 4000-7FFF is the controller's bank, its number reduced by the count of banks (20_memory.md R102). -/
theorem State.memRead_bank (hm : s.cart.mbc ≠ .romOnly) (h1 : 0x4000 ≤ a.toNat) (h2 : a.toNat < 0x8000) :
    s.memRead a =
      s.cart.rom.read (0x4000 * (s.cart.mbc.romBank % s.cart.romBanks) + (a.toNat - 0x4000)) := by
  have ho : s.cart.romOffset a.toNat =
      0x4000 * (s.cart.mbc.romBank % s.cart.romBanks) + (a.toNat - 0x4000) := by
    unfold Cart.romOffset
    cases hc : s.cart.mbc with
    | romOnly => exact absurd hc hm
    | _ => exact (if_neg (by omega)).trans (congrArg (· + _) (Nat.mul_comm _ _))
  rw [State.memRead_rom hd h2, ho]

end

/-! ## What the controllers' registers store -/

/-- The enable gate is open for a low nibble of 0xA (20_memory.md R115). -/
theorem ramGate_eq (v : Byte) : ramGate v = decide (v.toNat % 16 = 0x0A) := by
  revert v
  decide +kernel

/-- The zero test of a bank register is on the bits it stores (20_memory.md R106, R109). -/
theorem setWidth_eq_zero_iff (w : Nat) (v : Byte) : v.setWidth w = 0#w ↔ v.toNat % 2 ^ w = 0 := by
  rw [← BitVec.toNat_inj, BitVec.toNat_setWidth, BitVec.toNat_ofNat, Nat.zero_mod]

/-- Two bit fields side by side, on unbounded integers. -/
theorem toNat_append_eq {m n : Nat} (x : BitVec m) (y : BitVec n) :
    (x ++ y).toNat = 2 ^ n * x.toNat + y.toNat := by
  rw [BitVec.toNat_append, Nat.shiftLeft_eq, Nat.mul_comm, ← Nat.two_pow_add_eq_or_of_lt y.isLt]

/-- A write to 2000-2FFF stores the low eight bits of MBC5's bank and keeps bit 8 (20_memory.md R113). -/
theorem bank9_low (b : BitVec 9) (v : Byte) :
    b.extractLsb' 8 1 ++ v = BitVec.ofNat 9 (256 * (b.toNat / 256) + v.toNat) := by
  apply BitVec.eq_of_toNat_eq
  have hb := b.isLt
  have hv := v.isLt
  rw [toNat_append_eq, BitVec.extractLsb'_toNat, BitVec.toNat_ofNat, Nat.shiftRight_eq_div_pow]
  omega

/-- A write to 3000-3FFF stores bit 8 of MBC5's bank and keeps the low eight (20_memory.md R113). -/
theorem bank9_high (b : BitVec 9) (v : Byte) :
    v.setWidth 1 ++ b.setWidth 8 = BitVec.ofNat 9 (256 * (v.toNat % 2) + b.toNat % 256) := by
  apply BitVec.eq_of_toNat_eq
  rw [toNat_append_eq, BitVec.toNat_setWidth, BitVec.toNat_setWidth, BitVec.toNat_ofNat]
  omega

section
variable {n : Nat} (v : Byte)

theorem Mbc1.write_gate (m : Mbc1) (h : n < 0x2000) :
    m.write n v = { m with ramEnabled := decide (v.toNat % 16 = 0x0A) } := by
  rw [Mbc1.write, if_pos h, ramGate_eq]

theorem Mbc1.write_bank5 (m : Mbc1) (h1 : 0x2000 ≤ n) (h2 : n < 0x4000) :
    m.write n v = { m with bank5 := if v.toNat % 32 = 0 then 1#5 else BitVec.ofNat 5 v.toNat } := by
  rw [Mbc1.write, if_neg (by omega), if_pos h2]
  simp only [setWidth_eq_zero_iff, BitVec.ofNat_toNat]
  rfl

theorem Mbc1.write_bank2 (m : Mbc1) (h1 : 0x4000 ≤ n) (h2 : n < 0x6000) :
    m.write n v = { m with bank2 := BitVec.ofNat 2 v.toNat } := by
  rw [Mbc1.write, if_neg (by omega), if_neg (by omega), if_pos h2, BitVec.ofNat_toNat]

theorem Mbc1.write_mode (m : Mbc1) (h : 0x6000 ≤ n) :
    m.write n v = { m with mode := BitVec.ofNat 1 v.toNat } := by
  rw [Mbc1.write, if_neg (by omega), if_neg (by omega), if_neg (by omega), BitVec.ofNat_toNat]

theorem Mbc3.write_gate (m : Mbc3) (h : n < 0x2000) :
    m.write n v = { m with ramEnabled := decide (v.toNat % 16 = 0x0A) } := by
  rw [Mbc3.write, if_pos h, ramGate_eq]

theorem Mbc3.write_bank7 (m : Mbc3) (h1 : 0x2000 ≤ n) (h2 : n < 0x4000) :
    m.write n v = { m with bank7 := if v.toNat % 128 = 0 then 1#7 else BitVec.ofNat 7 v.toNat } := by
  rw [Mbc3.write, if_neg (by omega), if_pos h2]
  simp only [setWidth_eq_zero_iff, BitVec.ofNat_toNat]
  rfl

theorem Mbc3.write_sel (m : Mbc3) (h1 : 0x4000 ≤ n) (h2 : n < 0x6000) :
    m.write n v = { m with sel := v } := by
  rw [Mbc3.write, if_neg (by omega), if_neg (by omega), if_pos h2]

theorem Mbc3.write_none (m : Mbc3) (h : 0x6000 ≤ n) : m.write n v = m := by
  rw [Mbc3.write, if_neg (by omega), if_neg (by omega), if_neg (by omega)]

theorem Mbc5.write_gate (m : Mbc5) (h : n < 0x2000) :
    m.write n v = { m with ramEnabled := decide (v.toNat % 16 = 0x0A) } := by
  rw [Mbc5.write, if_pos h, ramGate_eq]

theorem Mbc5.write_low (m : Mbc5) (h1 : 0x2000 ≤ n) (h2 : n < 0x3000) :
    m.write n v = { m with bank9 := BitVec.ofNat 9 (256 * (m.bank9.toNat / 256) + v.toNat) } := by
  rw [Mbc5.write, if_neg (by omega), if_pos h2, bank9_low]

theorem Mbc5.write_high (m : Mbc5) (h1 : 0x3000 ≤ n) (h2 : n < 0x4000) :
    m.write n v = { m with bank9 := BitVec.ofNat 9 (256 * (v.toNat % 2) + m.bank9.toNat % 256) } := by
  rw [Mbc5.write, if_neg (by omega), if_neg (by omega), if_pos h2, bank9_high]

theorem Mbc5.write_rbank4 (m : Mbc5) (h1 : 0x4000 ≤ n) (h2 : n < 0x6000) :
    m.write n v = { m with rbank4 := BitVec.ofNat 4 v.toNat } := by
  rw [Mbc5.write, if_neg (by omega), if_neg (by omega), if_neg (by omega), if_pos h2, BitVec.ofNat_toNat]

theorem Mbc5.write_none (m : Mbc5) (h : 0x6000 ≤ n) : m.write n v = m := by
  rw [Mbc5.write, if_neg (by omega), if_neg (by omega), if_neg (by omega), if_neg (by omega)]

end

theorem Mbc1.romBank_eq (m : Mbc1) :
    m.romBank = if m.mode = 0#1 then 32 * m.bank2.toNat + m.bank5.toNat else m.bank5.toNat := by
  rw [Mbc1.romBank, toNat_append_eq]
  rfl

end Sys2Proof.Machine

open Sys2Proof.Machine in
/-- Settles O39: the reads and the RAM window by the banks that the registers select, then one register
for each range of writes. -/
theorem mbc1Banks : Obligations.Mbc1Banks := by
  intro s m a v hm hd n hiBank rbank open_ k
  have write {m' : Mbc1} (h : n < 0x8000) (hw : m.write n v = m') :
      s.memWrite a v = { s with cart.mbc := .mbc1 m' } := by
    rw [State.memWrite_rom hd h, hm, ← hw]
    rfl
  refine ⟨State.memRead_bank0 hd, fun h1 h2 => ?bank, fun h1 h2 ho => ?ram, fun h1 h2 ho => ?closed,
    fun h => write (by omega) (m.write_gate v h), fun h1 h2 => write (by omega) (m.write_bank5 v h1 h2),
    fun h1 h2 => write (by omega) (m.write_bank2 v h1 h2), fun h1 h2 => write h2 (m.write_mode v h1)⟩
  case bank =>
    rw [State.memRead_bank hd (by simp [hm]) h1 h2, hm, Mbc.romBank, m.romBank_eq]
  case ram =>
    obtain ⟨he, hz⟩ := ho
    exact State.ramWindow_open hd (by simp [hm, Mbc.ramBank?, he, Mbc1.ramBank, rbank]) hz h1 h2 v
  case closed =>
    refine State.ramWindow_closed hd ?_ h1 h2 v
    rw [hm, Mbc.ramBank?]
    grind

open Sys2Proof.Machine in
/-- Settles O40: as for MBC1, with a RAM window that a selector above 3 closes too. -/
theorem mbc3Banks : Obligations.Mbc3Banks := by
  intro s m a v hm hd n open_ k
  have write {m' : Mbc3} (h : n < 0x8000) (hw : m.write n v = m') :
      s.memWrite a v = { s with cart.mbc := .mbc3 m' } := by
    rw [State.memWrite_rom hd h, hm, ← hw]
    rfl
  refine ⟨State.memRead_bank0 hd, fun h1 h2 => ?bank, fun h1 h2 ho => ?ram, fun h1 h2 ho => ?closed,
    fun h => write (by omega) (m.write_gate v h), fun h1 h2 => write (by omega) (m.write_bank7 v h1 h2),
    fun h1 h2 => write (by omega) (m.write_sel v h1 h2), fun h1 h2 => ?none⟩
  case bank =>
    rw [State.memRead_bank hd (by simp [hm]) h1 h2, hm, Mbc.romBank]
  case ram =>
    obtain ⟨he, hs, hz⟩ := ho
    exact State.ramWindow_open hd (by simp [hm, Mbc.ramBank?, he, hs]) hz h1 h2 v
  case closed =>
    refine State.ramWindow_closed hd ?_ h1 h2 v
    rw [hm, Mbc.ramBank?]
    grind
  case none =>
    rw [write h2 (m.write_none v h1), ← hm]

open Sys2Proof.Machine in
/-- Settles O41: MBC5 as the others; a ROM-only cartridge has no register, and its window no gate. -/
theorem mbc5AndRomOnly : Obligations.Mbc5AndRomOnly := by
  constructor
  · intro s m a v hm hd n open_ k
    have write {m' : Mbc5} (h : n < 0x8000) (hw : m.write n v = m') :
        s.memWrite a v = { s with cart.mbc := .mbc5 m' } := by
      rw [State.memWrite_rom hd h, hm, ← hw]
      rfl
    refine ⟨State.memRead_bank0 hd, fun h1 h2 => ?bank, fun h1 h2 ho => ?ram, fun h1 h2 ho => ?closed,
      fun h => write (by omega) (m.write_gate v h), fun h1 h2 => write (by omega) (m.write_low v h1 h2),
      fun h1 h2 => write (by omega) (m.write_high v h1 h2),
      fun h1 h2 => write (by omega) (m.write_rbank4 v h1 h2), fun h1 h2 => ?none⟩
    case bank =>
      rw [State.memRead_bank hd (by simp [hm]) h1 h2, hm, Mbc.romBank]
    case ram =>
      obtain ⟨he, hz⟩ := ho
      exact State.ramWindow_open hd (by simp [hm, Mbc.ramBank?, he]) hz h1 h2 v
    case closed =>
      refine State.ramWindow_closed hd ?_ h1 h2 v
      rw [hm, Mbc.ramBank?]
      grind
    case none =>
      rw [write h2 (m.write_none v h1), ← hm]
  · intro s a v hm hd n k
    refine ⟨fun h => ⟨?read, ?write⟩, fun h1 h2 hz => State.ramWindow_closed hd (.inr hz) h1 h2 v,
      fun h1 h2 hz => ?ram⟩
    case read => rw [State.memRead_rom hd h, Cart.romOffset, hm]
    case write => rw [State.memWrite_rom hd h, hm, Mbc.write, ← hm]
    case ram => simpa using State.ramWindow_open hd (r := 0) (by rw [hm, Mbc.ramBank?]) hz h1 h2 v

namespace Sys2Proof.Machine

/-! ## What no step changes -/

/-- The controller's variant, its registers left out. -/
def Mbc.reset : Mbc → Mbc
  | .romOnly => .romOnly
  | .mbc1 _ => .mbc1 Mbc1.reset
  | .mbc3 _ => .mbc3 Mbc3.reset
  | .mbc5 _ => .mbc5 Mbc5.reset

@[simp] theorem Mbc.reset_write (m : Mbc) (a : Nat) (v : Byte) : (m.write a v).reset = m.reset := by
  cases m <;> rfl

/-- `t` has the cartridge of `s`, but for its external RAM and bank registers, and its buttons. -/
structure State.Untouched (s t : State) : Prop where
  rom : t.cart.rom = s.cart.rom
  romBanks : t.cart.romBanks = s.cart.romBanks
  ramSize : t.cart.ramSize = s.cart.ramSize
  battery : t.cart.battery = s.cart.battery
  variant : t.cart.mbc.reset = s.cart.mbc.reset
  pressed : t.joypad.pressed = s.joypad.pressed

theorem State.Untouched.refl (s : State) : s.Untouched s := ⟨rfl, rfl, rfl, rfl, rfl, rfl⟩

theorem State.writeIo_pressed (s : State) (r : IoReg) (v : Byte) :
    (s.writeIo r v).joypad.pressed = s.joypad.pressed := by
  cases r <;> simp [State.writeIo, Joypad.write]

theorem State.Untouched.memWrite {s t : State} (h : s.Untouched t) (a : Word) (v : Byte) :
    s.Untouched (t.memWrite a v) := by
  have same {u : State} (hc : u.cart = t.cart) (hp : u.joypad.pressed = t.joypad.pressed) :
      s.Untouched u :=
    ⟨hc ▸ h.rom, hc ▸ h.romBanks, hc ▸ h.ramSize, hc ▸ h.battery, hc ▸ h.variant, hp.trans h.pressed⟩
  apply State.memWrite_ind (P := s.Untouched) _ _ _ h
  apply State.busWrite_ind (P := s.Untouched) _ _ _ h
  case mbc =>
    exact fun x _ => ⟨h.rom, h.romBanks, h.ramSize, h.battery, (Mbc.reset_write ..).trans h.variant, h.pressed⟩
  case eram => exact fun k _ => ⟨h.rom, h.romBanks, h.ramSize, h.battery, h.variant, h.pressed⟩
  case io => exact fun r => same (t.writeIo_cart r v) (t.writeIo_pressed r v)
  case ie => exact same rfl rfl
  all_goals exact fun _ _ => same rfl rfl

/-- The three means by which an instruction changes the state leave it. -/
theorem keeps_untouched (s : State) : Keeps s.Untouched where
  cpu _ _ h _ := ⟨h.rom, h.romBanks, h.ramSize, h.battery, h.variant, h.pressed⟩
  write _ a v h := h.memWrite a v
  stop _ h := ⟨h.rom, h.romBanks, h.ramSize, h.battery, h.variant, h.pressed⟩

theorem step_untouched {s t : State} (h : step s = .next t) : s.Untouched t := by
  obtain ⟨n, -, rfl⟩ := step_next h
  have hc : s.Untouched s.cpuStep.1 := cpuStep_keeps (keeps_untouched s)
    (fun _ _ h => ⟨h.rom, h.romBanks, h.ramSize, h.battery, h.variant, h.pressed⟩) (.refl s)
  obtain ⟨-, -, joypad, -, cart, -, -, -⟩ := State.advance_other n s.cpuStep.1
  exact ⟨cart ▸ hc.rom, cart ▸ hc.romBanks, cart ▸ hc.ramSize, cart ▸ hc.battery, cart ▸ hc.variant,
    joypad ▸ hc.pressed⟩

end Sys2Proof.Machine

open Sys2Proof.Machine in
/-- Settles O38: what the three means of an instruction and the interrupt service leave, and what no
T-cycle touches. -/
theorem untouchedState : Obligations.UntouchedState := by
  refine ⟨fun s t h => ?_, State.advance_other⟩
  have u := step_untouched h
  have hv := u.variant
  refine ⟨u.rom, u.romBanks, u.ramSize, u.battery, u.pressed, fun hm => ?_, fun m hm => ?_,
    fun m hm => ?_, fun m hm => ?_⟩ <;>
  · rw [hm] at hv
    cases ht : t.cart.mbc <;> simp_all [Mbc.reset]

namespace Sys2Proof.Machine

/-! ## Saves -/

/-- The listing of a memory's first `n` bytes is the memory, if it lists nothing else. -/
theorem Cells.ofList_toList {w : Nat} {m : Cells w} {n : Nat} (hw : m.wf = true) (hn : m.within n = true) :
    Cells.ofList 0 (m.toList n) = m := by
  refine Cells.ext_of_wf _ _ (Cells.ofList_wf ..) hw fun a => ?_
  rw [Cells.read_ofList, if_pos (Nat.zero_le a), Nat.sub_zero, Cells.toList]
  by_cases ha : a < n
  · simp [List.getD, ha]
  · have high := Cells.read_append m [] a fun c hc => by have := (Cells.within_iff m n).1 hn c hc; omega
    simp [List.getD, ha] at high ⊢
    exact high.symm

theorem Cells.getD_toList {w : Nat} (m : Cells w) {n k : Nat} (h : k < n) (d : BitVec w) :
    (m.toList n).getD k d = m.read k := by
  simp [Cells.toList, List.getD, h]

theorem Cells.read_ofList_zero (row : List Byte) (a : Nat) :
    (Cells.ofList 0 row).read a = row.getD a 0#8 :=
  Cells.read_ofList row 0 a

theorem State.importSave_ok {s : State} {b : List Byte} (hb : s.cart.battery = true)
    (hl : b.length = s.cart.ramSize) :
    s.importSave b = .ok { s with cart.eram := Cells.ofList 0 b } := by
  simp [State.importSave, Cart.importRam, hb, hl]

/-- A save is refused without a battery and at a wrong length (20_memory.md R116). -/
theorem State.importSave_refused {s : State} {b : List Byte}
    (h : s.cart.battery = false ∨ b.length ≠ s.cart.ramSize) : s.importSave b = .error .invalidSave := by
  obtain h | h := h <;> simp [State.importSave, Cart.importRam, h]

end Sys2Proof.Machine

open Sys2Proof.Machine in
/-- Settles O57: the export lists the RAM and the import lists the bytes, and the invariant's canonical
form makes the one undo the other. -/
theorem saveRoundTrip : Obligations.SaveRoundTrip := by
  intro s hs
  obtain ⟨hw, hn⟩ := hs.eram_wf
  refine ⟨fun hb => ?battery, fun hb => ⟨?empty, fun b => State.importSave_refused (.inl hb)⟩,
    fun b hl => State.importSave_refused (.inr hl),
    fun b hb hl => ⟨_, State.importSave_ok hb hl, rfl, fun k _ => Cells.read_ofList_zero b k⟩⟩
  case battery =>
    have he : s.exportSave = s.cart.eram.toList s.cart.ramSize := if_pos hb
    have hl : s.exportSave.length = s.cart.ramSize := by simp [he, Cells.toList]
    refine ⟨hl, fun k hk => he ▸ Cells.getD_toList _ hk _, ?_⟩
    rw [State.importSave_ok hb hl, he, Cells.ofList_toList hw hn]
  case empty => simp [State.exportSave, Cart.exportRam, hb]

namespace Sys2Proof.Machine

/-! ## The stores of an instruction -/

/-- The two addresses follow each other, up or down, around the address space. -/
def Adjacent (a b : Word) : Prop := b = a + 1#16 ∨ b = a - 1#16

/-- `t` is `s` after CPU stores to the listed addresses, in order, and a change of the CPU alone. No
instruction stores more than twice, and two stores are to adjacent addresses. -/
inductive State.StoresTo (s : State) : List Word → State → Prop where
  | none (c : Cpu) : s.StoresTo [] { s with cpu := c }
  | one (a : Word) (v : Byte) (c : Cpu) : s.StoresTo [a] { s.memWrite a v with cpu := c }
  | two (a b : Word) (v w : Byte) (c : Cpu) (adjacent : Adjacent a b) :
      s.StoresTo [a, b] { (s.memWrite a v).memWrite b w with cpu := c }

/-- The addresses that a write of an r8 operand stores to. -/
def State.r8Addrs (s : State) : R8 → List Word
  | .reg _ => []
  | .atHL => [s.hl]

section
variable {s t : State}

/-- What follows the stores may change the CPU. -/
theorem State.StoresTo.thenCpu {as : List Word} {u : State} (h : s.StoresTo as t)
    (hu : u = { t with cpu := u.cpu }) : s.StoresTo as u := by
  rw [hu]
  cases h with
  | none => exact .none _
  | one a v => exact .one a v _
  | two a b v w _ adjacent => exact .two a b v w _ adjacent

theorem State.storesTo_writeR8 (s : State) (k : R8) (v : Byte) : s.StoresTo (s.r8Addrs k) (s.writeR8 k v) := by
  cases k with
  | reg r => cases r <;> exact .none _
  | atHL => exact .one s.hl v _

theorem State.storesTo_push16 (s : State) (w : Word) : s.StoresTo s.pushAddrs (s.push16 w) := by
  rw [State.push16_eq]
  exact .two _ _ _ _ _ (.inr (by rw [BitVec.sub_sub]; rfl))

theorem callIf_stores {cc : Cond} {a : Word} :
    Answers (s.StoresTo (if s.cond cc then s.pushAddrs else [])) (callIf cc a s) := by
  unfold callIf
  split
  · exact ⟨_, rfl, (s.storesTo_push16 _).thenCpu rfl⟩
  · exact ⟨_, rfl, .none _⟩

theorem retIf_stores {cc : Cond} : Answers (s.StoresTo []) (retIf cc s) := by
  unfold retIf
  split <;> exact ⟨_, rfl, .none _⟩

theorem jumpIf_stores {cc : Cond} {a : Word} : Answers (s.StoresTo []) (jumpIf cc a s) := by
  unfold jumpIf
  split <;> exact ⟨_, rfl, .none _⟩

theorem jumpRelativeIf_stores {cc : Cond} {e : Byte} : Answers (s.StoresTo []) (jumpRelativeIf cc e s) := by
  unfold jumpRelativeIf
  split <;> exact ⟨_, rfl, .none _⟩

theorem haltCpu_stores : Answers (s.StoresTo []) (haltCpu s) := by
  unfold haltCpu
  split <;> exact ⟨_, rfl, .none _⟩

theorem State.r8Addrs_r8Field (s : State) {z : Nat} (hz : z < 8) :
    s.r8Addrs (r8Field z) = if z = 6 then [s.hl] else [] := by
  interval_cases z <;> rfl

/-- The CB-table instruction that `op2` selects stores unless it is a BIT or its operand a register. -/
theorem cbTable_stores {op2 : Byte} :
    Answers (s.StoresTo (if op2.toNat % 8 = 6 ∧ op2.toNat / 64 ≠ 1 then [s.hl] else [])) (cbTable op2 s) := by
  have addrs : (if op2.toNat % 8 = 6 ∧ op2.toNat / 64 ≠ 1 then [s.hl] else []) =
      if op2.toNat / 64 = 1 then [] else s.r8Addrs (r8Field (op2.toNat % 8)) := by
    rw [s.r8Addrs_r8Field (by omega)]
    grind
  rw [addrs]
  unfold cbTable
  generalize op2.toNat / 64 = x
  match x with
  | 0 => exact ⟨_, rfl, (s.storesTo_writeR8 _ _).thenCpu rfl⟩
  | 1 => exact ⟨_, rfl, .none _⟩
  | 2 => exact ⟨_, rfl, (s.storesTo_writeR8 _ _).thenCpu rfl⟩
  | n + 3 => exact ⟨_, rfl, (s.storesTo_writeR8 _ _).thenCpu rfl⟩

/-- Every instruction but STOP is its stores and a change of the CPU. -/
theorem exec_stores {i : Instr} (hi : ∀ n, i ≠ .stop n) : Answers (s.StoresTo (storeAddrs i s)) (exec i s) := by
  cases i with
  | stop n => exact absurd rfl (hi n)
  | ld_atBC_A | ld_atDE_A | ld_atHLi_A | ld_atHLd_A | ldh_ata8_A _ | ld_atC_A | ld_ata16_A _ | ld_atHL_d8 _
  | ld_atHL_B | ld_atHL_C | ld_atHL_D | ld_atHL_E | ld_atHL_H | ld_atHL_L | ld_atHL_A | inc_atHL | dec_atHL
  | rlc_atHL | rrc_atHL | rl_atHL | rr_atHL | sla_atHL | sra_atHL | swap_atHL | srl_atHL
  | res_0_atHL | res_1_atHL | res_2_atHL | res_3_atHL | res_4_atHL | res_5_atHL | res_6_atHL | res_7_atHL
  | set_0_atHL | set_1_atHL | set_2_atHL | set_3_atHL | set_4_atHL | set_5_atHL | set_6_atHL | set_7_atHL =>
    exact ⟨_, rfl, .one _ _ _⟩
  | prefix_CB _ => exact cbTable_stores
  | ld_ata16_SP a => exact ⟨_, rfl, .two a (a + 1#16) _ _ _ (.inl rfl)⟩
  | push_BC | push_DE | push_HL | push_AF | call_a16 _
  | rst_00H | rst_08H | rst_10H | rst_18H | rst_20H | rst_28H | rst_30H | rst_38H =>
    exact ⟨_, rfl, (s.storesTo_push16 _).thenCpu rfl⟩
  | call_NZ_a16 _ | call_Z_a16 _ | call_NC_a16 _ | call_C_a16 _ => exact callIf_stores
  | ret_NZ | ret_Z | ret_NC | ret_C => exact retIf_stores
  | jp_NZ_a16 _ | jp_Z_a16 _ | jp_NC_a16 _ | jp_C_a16 _ => exact jumpIf_stores
  | jr_NZ_e8 _ | jr_Z_e8 _ | jr_NC_e8 _ | jr_C_e8 _ => exact jumpRelativeIf_stores
  | halt => exact haltCpu_stores
  | _ => exact ⟨_, rfl, .none _⟩

/-- What an instruction's next state is. -/
theorem storesTo_of_exec {i : Instr} (hi : ∀ n, i ≠ .stop n) (h : exec i s = .next t) :
    s.StoresTo (storeAddrs i s) t := by
  obtain ⟨u, hu, hs⟩ := exec_stores (s := s) hi
  rw [hu] at h
  cases h
  exact hs

end

/-! ## What a store leaves -/

/-- A store to `a` leaves what is read at `b`: the DMA blocks it, or it goes to another cell. -/
def State.Spares (s : State) (b a : Word) : Prop :=
  s.blocked a = true ∨ ∃ c, s.cell? a = some c ∧ s.cell? b ≠ some c

theorem State.Spares.memRead {s : State} {a b : Word} (h : s.Spares b a) (v : Byte) :
    (s.memWrite a v).memRead b = s.memRead b := by
  obtain hb | ⟨c, hc, hne⟩ := h
  · rw [State.memWrite_blocked hb]
  · exact State.memRead_memWrite_other hc hne v

/-- Such a store moves no cell and neither starts nor ends a block, so it spares what it spared. -/
theorem State.Spares.keeps {s : State} {a b a' b' : Word} (h : s.Spares b a) (h' : s.Spares b' a') (v : Byte) :
    (s.memWrite a v).Spares b' a' := by
  obtain hb | ⟨c, hc, -⟩ := h
  · rwa [State.memWrite_blocked hb]
  · cases hb : s.blocked a with
    | true => rwa [State.memWrite_blocked hb]
    | false => simpa only [State.Spares, State.memWrite_cell hc hb, State.writeCell_blocked, State.writeCell_cell?]

theorem State.StoresTo.memRead {s t : State} {as : List Word} {b : Word} (h : s.StoresTo as t)
    (ha : ∀ a ∈ as, s.Spares b a) : t.memRead b = s.memRead b := by
  cases h with
  | none => exact State.memRead_withCpu ..
  | one a v => rw [State.memRead_withCpu, (ha a (by simp)).memRead]
  | two a a' v w =>
    have first := ha a (by simp)
    rw [State.memRead_withCpu, (first.keeps (ha a' (by simp)) v).memRead, first.memRead]

/-- `t` has the memories of `s`, the cartridge's too. -/
structure State.SameMemories (s t : State) : Prop where
  vram : t.vram = s.vram
  wram : t.wram = s.wram
  oam : t.oam = s.oam
  hram : t.hram = s.hram
  eram : t.cart.eram = s.cart.eram
  rom : t.cart.rom = s.cart.rom

/-- A store to `a` changes no memory: the DMA blocks it, or it reaches no cell. -/
def State.NoCell (s : State) (a : Word) : Prop := s.blocked a = true ∨ s.cell? a = none

theorem State.NoCell.sameMemories {s : State} {a : Word} (h : s.NoCell a) (v : Byte) :
    s.SameMemories (s.memWrite a v) := by
  have same : s.SameMemories s := ⟨rfl, rfl, rfl, rfl, rfl, rfl⟩
  obtain hb | hc := h
  · rwa [State.memWrite_blocked hb]
  apply State.memWrite_ind _ _ _ same
  unfold State.cell? at hc
  unfold State.busWrite
  cases hd : decodeAddr a <;> rw [hd] at hc <;> simp at hc
  case cartRom x => exact ⟨rfl, rfl, rfl, rfl, rfl, rfl⟩
  case cartRam off => simpa [hc] using same
  case unusable => exact same
  case io r =>
    cases r with
    | none => exact same
    | some r => constructor <;> simp
  case ie => exact ⟨rfl, rfl, rfl, rfl, rfl, rfl⟩

/-- A store never ends a DMA. -/
theorem State.memWrite_dma_active {s : State} (hd : s.dma.active = true) (a : Word) (v : Byte) :
    (s.memWrite a v).dma.active = true := by
  apply State.memWrite_ind (P := fun t => t.dma.active = true) _ _ _ hd
  apply State.busWrite_ind (P := fun t => t.dma.active = true) _ _ _ hd
  case io =>
    intro r
    by_cases hr : r = .dma
    · rw [hr]
      rfl
    · rwa [State.writeIo_dma s hr]
  all_goals intros; exact hd

/-- Only a store below 0x8000 moves a bank. -/
theorem State.memWrite_mbc {a : Word} (h : 0x8000 ≤ a.toNat) (s : State) (v : Byte) :
    (s.memWrite a v).cart.mbc = s.cart.mbc := by
  apply State.memWrite_ind (P := fun t => t.cart.mbc = s.cart.mbc) _ _ _ rfl
  have hs := decodeAddr_spec a
  unfold State.busWrite
  cases hd : decodeAddr a with
  | cartRom x =>
    rw [hd] at hs
    obtain ⟨hx, ha⟩ := hs
    omega
  | cartRam off => dsimp only; split <;> rfl
  | io r =>
    cases r with
    | none => rfl
    | some r => simp
  | _ => rfl

/-- The cell at an address depends on the banks in the RAM window only, and on the size of the array. -/
theorem State.cell?_congr {s t : State} {b : Word} (hz : t.cart.ramSize = s.cart.ramSize)
    (hm : 0xA000 ≤ b.toNat → b.toNat < 0xC000 → t.cart.mbc = s.cart.mbc) : t.cell? b = s.cell? b := by
  have hs := decodeAddr_spec b
  unfold State.cell?
  cases hd : decodeAddr b with
  | cartRam off =>
    rw [hd] at hs
    obtain ⟨ho, hb⟩ := hs
    simp only [Cart.ramOffset?, Cart.ramAt, hz, hm (by omega) (by omega)]
  | _ => rfl

/-- No address below 0x8000 has a neighbour in the RAM window, so the second of an instruction's two
stores goes to the cell it went to before the first. -/
theorem State.cell?_memWrite_adjacent {a b : Word} (h : Adjacent a b) (s : State) (v : Byte) :
    (s.memWrite a v).cell? b = s.cell? b := by
  obtain ⟨-, -, size, -⟩ := s.memWrite_cart a v
  refine State.cell?_congr size fun h1 h2 => State.memWrite_mbc ?_ s v
  obtain rfl | rfl := h
  · bv_omega
  · bv_omega

theorem State.NoCell.keeps {s : State} {a b : Word} (h : s.NoCell b) (hab : Adjacent a b) (v : Byte) :
    (s.memWrite a v).NoCell b := by
  obtain hb | hc := h
  · obtain ⟨hd, hopen⟩ := (s.blocked_iff b).1 hb
    exact .inl (((s.memWrite a v).blocked_iff b).2 ⟨State.memWrite_dma_active hd a v, hopen⟩)
  · exact .inr ((s.cell?_memWrite_adjacent hab v).trans hc)

theorem State.SameMemories.trans {s t u : State} (h : s.SameMemories t) (h' : t.SameMemories u) :
    s.SameMemories u :=
  ⟨h'.vram.trans h.vram, h'.wram.trans h.wram, h'.oam.trans h.oam, h'.hram.trans h.hram,
    h'.eram.trans h.eram, h'.rom.trans h.rom⟩

theorem State.SameMemories.thenCpu {s t : State} (h : s.SameMemories t) (c : Cpu) :
    s.SameMemories { t with cpu := c } :=
  ⟨h.vram, h.wram, h.oam, h.hram, h.eram, h.rom⟩

theorem State.StoresTo.sameMemories {s t : State} {as : List Word} (h : s.StoresTo as t)
    (ha : ∀ a ∈ as, s.NoCell a) : s.SameMemories t := by
  cases h with
  | none => exact ⟨rfl, rfl, rfl, rfl, rfl, rfl⟩
  | one a v c => exact ((ha a (by simp)).sameMemories v).thenCpu c
  | two a b v w c adjacent =>
    have second : (s.memWrite a v).NoCell b := (ha b (by simp)).keeps adjacent v
    exact (((ha a (by simp)).sameMemories v).trans (second.sameMemories w)).thenCpu c

end Sys2Proof.Machine

open Sys2Proof.Machine in
/-- Settles O36: every instruction but STOP is its stores and a change of the CPU, and STOP changes the
timer and the CPU. -/
theorem storeFrame : Obligations.StoreFrame := by
  refine ⟨fun i s t b h hi ha => (storesTo_of_exec hi h).memRead ha, fun i s t h ha => ?memories,
    fun s a c v hc hb => State.memRead_memWrite_same hc hb v⟩
  case memories =>
    have same : s.SameMemories t := by
      by_cases hi : ∀ n, i ≠ .stop n
      · exact (storesTo_of_exec hi h).sameMemories ha
      · obtain ⟨n, rfl⟩ : ∃ n, i = .stop n := by simpa using hi
        cases h
        exact ⟨rfl, rfl, rfl, rfl, rfl, rfl⟩
    exact ⟨same.vram, same.wram, same.oam, same.hram, same.eram, same.rom⟩

namespace Sys2Proof.Machine

/-! ## The load -/

/-- The type codes of 20_memory.md R100's table. -/
def supportedCodes : List Nat :=
  [0x00, 0x01, 0x02, 0x03, 0x08, 0x09, 0x0F, 0x10, 0x11, 0x12, 0x13, 0x19, 0x1A, 0x1B, 0x1C, 0x1D, 0x1E]

/-- The table's row of the code `n` (20_memory.md R100). -/
structure CartType.OfCode (t : CartType) (n : Nat) : Prop where
  supported : n ∈ supportedCodes
  ram : t.ram = true ↔ n ∈ [0x02, 0x03, 0x08, 0x09, 0x10, 0x12, 0x13, 0x1A, 0x1B, 0x1D, 0x1E]
  battery : t.battery = true ↔ n ∈ [0x03, 0x09, 0x0F, 0x10, 0x13, 0x1B, 0x1E]
  romOnly : n ∈ [0x00, 0x08, 0x09] → t.mbc = .romOnly
  mbc1 : n ∈ [0x01, 0x02, 0x03] → t.mbc = .mbc1 Mbc1.reset
  mbc3 : n ∈ [0x0F, 0x10, 0x11, 0x12, 0x13] → t.mbc = .mbc3 Mbc3.reset
  mbc5 : n ∈ [0x19, 0x1A, 0x1B, 0x1C, 0x1D, 0x1E] → t.mbc = .mbc5 Mbc5.reset

theorem cartType?_ofCode {code : Byte} {t : CartType} (h : cartType? code = some t) : t.OfCode code.toNat := by
  unfold cartType? at h
  split at h <;> cases h <;> rename_i hc <;> rw [hc] <;> constructor <;> simp [supportedCodes]

theorem cartType?_supported {code : Byte} (h : code.toNat ∈ supportedCodes) : ∃ t, cartType? code = some t := by
  unfold cartType?
  split
  case h_18 => simp_all [supportedCodes]
  all_goals exact ⟨_, rfl⟩

theorem cartType?_unsupported {code : Byte} (h : code.toNat ∉ supportedCodes) : cartType? code = none :=
  Option.eq_none_iff_forall_ne_some.2 fun _ ht => h (cartType?_ofCode ht).supported

/-- The sizes of 20_memory.md R101's table, by RAM size code. -/
def ramSizes : List Nat := [0, 2048, 8192, 32768, 131072, 65536]

theorem ramSize?_eq (code : Byte) : Machine.ramSize? code = ramSizes[code.toNat]? := by
  unfold Machine.ramSize?
  split
  case h_7 =>
    have h6 : 6 ≤ code.toNat := by grind
    exact (List.getElem?_eq_none h6).symm
  all_goals simp [*, ramSizes]

/-- A type with RAM takes its size from the header, if the code is in the table. -/
theorem CartType.ramSize?_ram {t : CartType} (h : t.ram = true) (rom : List Byte) :
    t.ramSize? rom = ramSizes[(rom.getD 0x0149 0#8).toNat]? := by
  rw [CartType.ramSize?, if_pos h, ramSize?_eq]

/-- A type without RAM has size 0 whatever the code. -/
theorem CartType.ramSize?_noRam {t : CartType} (h : ¬t.ram = true) (rom : List Byte) :
    t.ramSize? rom = some 0 :=
  if_neg h

theorem Cells.read_takeBelow {w : Nat} (m : Cells w) {n a : Nat} (h : a < n) :
    (m.takeBelow n).read a = m.read a :=
  Cells.read_filter m _ a (by simp [h])

theorem new_error {l : Launch} {e : LoadError} (h : l.cart = .error e) : new l = .error e := by
  simp only [new, h]

theorem new_ok {l : Launch} {c : Cart} (h : l.cart = .ok c) :
    new l = .ok (State.launch c (l.initRam.vram.takeBelow 0x2000) (l.initRam.wram.takeBelow 0x2000)
      (l.initRam.oam.takeBelow 160) (l.initRam.hram.takeBelow 127)) := by
  simp only [new, h]

section
variable {l : Launch}

theorem Launch.cart_badLength (h : l.rom.length < 0x8000 ∨ l.rom.length % 0x4000 ≠ 0) :
    l.cart = .error .invalidRom := by
  have hv : validRomLength l.rom.length = false := by
    simp only [validRomLength, Bool.and_eq_false_iff, decide_eq_false_iff_not]
    omega
  simp [Launch.cart, hv]

theorem validRomLength_of {n : Nat} (h1 : 0x8000 ≤ n) (h2 : n % 0x4000 = 0) : validRomLength n = true := by
  simp [validRomLength, h1, h2]

/-- Whether the load's second check fails: the header checksum is checked and is not the image's. -/
def Launch.badChecksum (l : Launch) : Bool :=
  l.checkHeaderChecksum && decide (headerChecksum l.rom ≠ l.rom.getD 0x014D 0#8)

theorem Launch.badChecksum_iff :
    l.badChecksum = true ↔ l.checkHeaderChecksum = true ∧ headerChecksum l.rom ≠ l.rom.getD 0x014D 0#8 := by
  rw [Launch.badChecksum, Bool.and_eq_true, decide_eq_true_iff]

variable (hv : validRomLength l.rom.length = true)
include hv

theorem Launch.cart_badChecksum (hs : l.badChecksum = true) : l.cart = .error .invalidRom := by
  unfold Launch.cart
  rw [hv]
  exact if_pos hs

variable (hs : ¬l.badChecksum = true)
include hs

theorem Launch.cart_unsupported (ht : cartType? (l.rom.getD 0x0147 0#8) = none) :
    l.cart = .error .unsupportedCartridge := by
  unfold Launch.cart
  rw [hv, ht]
  exact if_neg hs

variable {t : CartType} (ht : cartType? (l.rom.getD 0x0147 0#8) = some t)
include ht

theorem Launch.cart_badSize (hz : t.ramSize? l.rom = none) : l.cart = .error .invalidRom := by
  unfold Launch.cart
  rw [hv, ht]
  simp only [hz]
  exact if_neg hs

variable {size : Nat} (hz : t.ramSize? l.rom = some size)
include hz

theorem Launch.cart_drawn (hl : l.save = none) : l.cart = .ok (t.cart size l) := by
  unfold Launch.cart
  rw [hv, ht]
  simp only [hz, hl]
  exact if_neg hs

theorem Launch.cart_saved {b : List Byte} (hl : l.save = some b) : l.cart = (t.cart size l).importRam b := by
  unfold Launch.cart
  rw [hv, ht]
  simp only [hz, hl]
  exact if_neg hs

theorem Launch.cart_badSave {b : List Byte} (hl : l.save = some b)
    (hb : ¬(t.battery = true ∧ b.length = size)) : l.cart = .error .invalidSave := by
  rw [Launch.cart_saved hv hs ht hz hl]
  refine if_neg fun h => hb ?_
  obtain ⟨battery, length⟩ := Bool.and_eq_true_iff.1 h
  exact ⟨battery, of_decide_eq_true length⟩

/-- An accepted load's cartridge: the type's, with the save or else the draw in its RAM. -/
theorem Launch.cart_accepted
    (hl : l.save = none ∨ ∃ b, l.save = some b ∧ t.battery = true ∧ b.length = size) :
    ∃ eram, l.cart = .ok { t.cart size l with eram := eram } ∧
      (∀ b, l.save = some b → ∀ k, k < size → eram.read k = b.getD k 0#8) ∧
      (l.save = none → ∀ k, k < size → eram.read k = l.initRam.eram.read k) := by
  obtain hl | ⟨b, hl, hb, hn⟩ := hl
  · exact ⟨_, Launch.cart_drawn hv hs ht hz hl, by simp [hl], fun _ k hk => Cells.read_takeBelow _ hk⟩
  · refine ⟨Cells.ofList 0 b, ?_, ?_, by simp [hl]⟩
    · rw [Launch.cart_saved hv hs ht hz hl]
      exact if_pos (by simp [CartType.cart, hb, hn])
    · rintro _ h k -
      rw [hl] at h
      cases h
      exact Cells.read_ofList_zero b k

end

end Sys2Proof.Machine

open Sys2Proof.Machine in
/-- Settles O55: the checks one after the other, then the launch of the cartridge that they let through. -/
theorem loadChecks : Obligations.LoadChecks := by
  intro l n code sizeCode badChecksum supported hasRam battery sizes size
  have hbad : l.badChecksum = true ↔ badChecksum := Launch.badChecksum_iff
  refine ⟨fun h => new_error (Launch.cart_badLength h),
    fun h1 h2 h => new_error (Launch.cart_badChecksum (validRomLength_of h1 h2) (hbad.2 h)),
    fun h1 h2 hs h => new_error (Launch.cart_unsupported (validRomLength_of h1 h2) (hs ∘ hbad.1)
      (cartType?_unsupported h)),
    fun h1 h2 hs h hr hz => ?badSize, fun h1 h2 hs h hz => ?checked⟩
  case badSize =>
    obtain ⟨t, ht⟩ := cartType?_supported h
    refine new_error (Launch.cart_badSize (validRomLength_of h1 h2) (hs ∘ hbad.1) ht ?_)
    rw [t.ramSize?_ram ((cartType?_ofCode ht).ram.2 hr)]
    exact List.getElem?_eq_none hz
  case checked =>
    obtain ⟨t, ht⟩ := cartType?_supported h
    have row := cartType?_ofCode ht
    have hsize : t.ramSize? l.rom = some size := by
      by_cases hr : hasRam
      · have hlt : sizeCode < ramSizes.length := hz hr
        rw [t.ramSize?_ram (row.ram.2 hr), List.getElem?_eq_getElem hlt]
        exact congrArg some ((List.getD_eq_getElem _ 0 hlt).symm.trans (if_pos hr).symm)
      · rw [t.ramSize?_noRam (hr ∘ row.ram.1)]
        exact congrArg some (if_neg hr).symm
    have hv := validRomLength_of h1 h2
    refine ⟨fun b hl hb => ?refused, fun hl => ?accepted⟩
    case refused =>
      exact new_error (Launch.cart_badSave hv (hs ∘ hbad.1) ht hsize hl fun h => hb (h.imp_left row.battery.1))
    case accepted =>
      obtain ⟨eram, hc, hsave, hdraw⟩ := Launch.cart_accepted hv (hs ∘ hbad.1) ht hsize
        (hl.imp_right fun ⟨b, hb, ho, hn⟩ => ⟨b, hb, row.battery.2 ho, hn⟩)
      exact ⟨_, new_ok hc, rfl, rfl, row.battery, fun a _ => Cells.read_ofList_zero _ a, hsave, hdraw,
        row.romOnly, row.mbc1, row.mbc3, row.mbc5, rfl, fun _ => Cells.read_takeBelow _,
        fun _ => Cells.read_takeBelow _, fun _ => Cells.read_takeBelow _, fun _ => Cells.read_takeBelow _⟩

end

/-! SUPPORT and proofs. The statements of 30_encoding.md: the opcode maps against the encoder, and the fetch
with the HALT bug. -/

section

namespace Sys2Proof

/-! ## The squares of the opcode maps -/

/-- `bytes` spell the whole instruction `i`. -/
def Instr.Spelled (i : Instr) (bytes : List Byte) : Prop := i.wellFormed = true ∧ encode i = bytes

/-- The square `e` of the opcode `b0` is of the format of `n` bytes (30_encoding.md R130), and what it
becomes is spelled by the bytes it is given. -/
inductive Entry.OfFormat : Byte → Nat → Entry → Prop where
  | cb : OfFormat 0xCB#8 2 iCb
  | f1 {b0 : Byte} {i : Instr} : i.Spelled [b0] → OfFormat b0 1 (i0 i)
  | f2 {b0 : Byte} {k : Byte → Instr} : (∀ n, (k n).Spelled [b0, n]) → OfFormat b0 2 (i8 k)
  | f3 {b0 : Byte} {k : Word → Instr} :
    (∀ n, (k n).Spelled [b0, lo n, hi n]) → OfFormat b0 3 (i16 k)

/-- Each square of the primary map (30_encoding.md R140): the map's entry is of the format that the length
table says, and its constructor's bytes are the encoder's. -/
theorem decodeBytes_ofFormat (b0 : Byte) : Entry.OfFormat b0 (instrLength b0) (decodeBytes b0) := by
  obtain ⟨n, hn, rfl⟩ : ∃ n < 256, b0 = BitVec.ofNat 8 n := ⟨b0.toNat, b0.isLt, by simp⟩
  interval_cases n <;> constructor
  all_goals
    intros
    exact ⟨rfl, rfl⟩

/-- Each square of the CB map (30_encoding.md R141). -/
theorem decodeCb_spelled (op2 : Byte) : (decodeCb op2).Spelled [0xCB#8, op2] := by
  unfold Instr.Spelled
  revert op2
  decide +kernel

theorem Entry.OfFormat.spelled {b0 : Byte} {n : Nat} {e : Entry} (h : OfFormat b0 n e) (b1 b2 : Byte) :
    (e b1 b2).Spelled ([b0, b1, b2].take n) := by
  cases h with
  | cb => exact decodeCb_spelled b1
  | f1 h => exact h
  | f2 h => exact h b1
  | f3 h => simpa [i16] using h (pair b2 b1)

/-! ## The decoder by length -/

section
variable {b0 : Byte} (b1 b2 : Byte) (rest : List Byte)

theorem decode_one (h : instrLength b0 = 1) : decode (b0 :: rest) = .ok (decodeBytes b0 0 0, rest) := by
  simp only [decode, h]

theorem decode_two (h : instrLength b0 = 2) :
    decode (b0 :: b1 :: rest) = .ok (decodeBytes b0 b1 0, rest) := by
  simp only [decode, h]

theorem decode_three (h : instrLength b0 = 3) :
    decode (b0 :: b1 :: b2 :: rest) = .ok (decodeBytes b0 b1 b2, rest) := by
  simp only [decode, h]

end

/-- What decodes is the instruction's bytes, as many as its first one says, and the rest. -/
theorem decode_eq_ok {bytes rest : List Byte} {i : Instr} (h : decode bytes = .ok (i, rest)) :
    ∃ b0 b1 b2, i = decodeBytes b0 b1 b2 ∧ bytes = [b0, b1, b2].take (instrLength b0) ++ rest := by
  unfold decode at h
  split at h
  case h_1 => cases h
  case h_2 b0 _ => split at h <;> cases h <;> exact ⟨b0, _, _, rfl, by simp [*]⟩

/-- Three bytes hold an instruction of each length. -/
theorem decode_of_three (b0 b1 b2 : Byte) (rest : List Byte) :
    ∃ i rest', decode (b0 :: b1 :: b2 :: rest) = .ok (i, rest') := by
  obtain h | h | h := Machine.instrLength_cases b0
  · exact ⟨_, _, decode_one _ h⟩
  · exact ⟨_, _, decode_two _ _ h⟩
  · exact ⟨_, _, decode_three _ _ _ h⟩

/-- A square of format F3 reads the word whose two bytes follow the opcode. -/
theorem decode_word {b0 : Byte} {k : Word → Instr} (hl : instrLength b0 = 3) (hk : decodeBytes b0 = i16 k)
    (n : Word) (rest : List Byte) : decode (b0 :: lo n :: hi n :: rest) = .ok (k n, rest) := by
  rw [decode_three _ _ _ hl, hk, i16, pair_hi_lo]

/-- The bytes of a constructor decode to it: the maps give the constructor back, and the two bytes of a word
are put together again. -/
theorem decode_encode {i : Instr} (h : i.wellFormed = true) (rest : List Byte) :
    decode (encode i ++ rest) = .ok (i, rest) := by
  cases i
  case prefix_CB => cases h
  case ld_BC_d16 n | ld_DE_d16 n | ld_HL_d16 n | ld_SP_d16 n | ld_ata16_SP n | ld_ata16_A n | ld_A_ata16 n
      | jp_a16 n | jp_NZ_a16 n | jp_Z_a16 n | jp_NC_a16 n | jp_C_a16 n
      | call_a16 n | call_NZ_a16 n | call_Z_a16 n | call_NC_a16 n | call_C_a16 n =>
    exact decode_word rfl rfl n rest
  all_goals rfl

end Sys2Proof

open Sys2Proof in
/-- Settles O1, by cases on the instruction's constructor. -/
theorem decodeAfterEncode : Obligations.DecodeAfterEncode :=
  fun _ rest h => decode_encode h rest

open Sys2Proof in
/-- Settles O2: what decodes is a square of the primary map, which is spelled by the bytes it was given. -/
theorem encodeAfterDecode : Obligations.EncodeAfterDecode := by
  refine ⟨fun bytes i rest h => ?_, decode_of_three⟩
  obtain ⟨b0, b1, b2, rfl, rfl⟩ := decode_eq_ok h
  obtain ⟨whole, spelled⟩ := (decodeBytes_ofFormat b0).spelled b1 b2
  exact ⟨whole, congrArg (· ++ rest) spelled⟩

/-- Settles O3: the decoder looks each word up in the maps. -/
theorem decodedWords : Obligations.DecodedWords :=
  ⟨rfl, rfl, rfl, rfl, rfl, rfl, rfl, rfl, rfl, rfl, rfl, rfl, rfl, rfl, rfl, rfl, rfl⟩

namespace Sys2Proof.Machine

/-! ## The fetch with the HALT bug -/

/-- `fetch8` without the HALT bug moves PC (30_encoding.md R131). -/
theorem State.fetch8_moves (s : State) {c : Cpu} (h : c.haltBug = false) :
    ({ s with cpu := c } : State).fetch8 =
      (s.memRead c.pc, { s with cpu := { c with pc := c.pc + 1#16 } }) := by
  rw [← s.memRead_withCpu c]
  exact if_neg (ne_true_of_eq_false h)

/-- `fetch8` with the HALT bug clears it and leaves PC (30_encoding.md R131). -/
theorem State.fetch8_stays (s : State) {c : Cpu} (h : c.haltBug = true) :
    ({ s with cpu := c } : State).fetch8 =
      (s.memRead c.pc, { s with cpu := { c with haltBug := false } }) := by
  rw [← s.memRead_withCpu c]
  exact if_pos h

theorem State.fetch8_fst (s : State) : s.fetch8.1 = s.memRead s.cpu.pc := by
  cases h : s.cpu.haltBug with
  | false => exact congrArg Prod.fst (s.fetch8_moves h)
  | true => exact congrArg Prod.fst (s.fetch8_stays h)

/-- With the HALT bug, the fetch of an instruction reads its first byte, reads it again as the second, and
reads the byte after it as the third. -/
theorem State.fetchInstr_haltBug {s : State} (h : s.cpu.haltBug = true) :
    let b := s.memRead s.cpu.pc
    let s' := { s with cpu.haltBug := false, cpu.opAddr := s.cpu.pc }
    (instrLength b = 1 → s.fetchInstr = (decodeBytes b 0 0, s')) ∧
    (instrLength b = 2 →
      s.fetchInstr = (decodeBytes b b 0, { s' with cpu.pc := s.cpu.pc + 1#16 })) ∧
    (instrLength b = 3 →
      s.fetchInstr =
        (decodeBytes b b (s.memRead (s.cpu.pc + 1#16)), { s' with cpu.pc := s.cpu.pc + 2#16 })) := by
  intro b s'
  have first : ({ s with cpu.opAddr := s.cpu.pc } : State).fetch8 = (b, s') := s.fetch8_stays h
  have second : s'.fetch8 = (b, { s' with cpu.pc := s.cpu.pc + 1#16 }) := s.fetch8_moves rfl
  have third : ({ s' with cpu.pc := s.cpu.pc + 1#16 } : State).fetch8 =
      (s.memRead (s.cpu.pc + 1#16), { s' with cpu.pc := s.cpu.pc + 2#16 }) := by
    have next : s.cpu.pc + 1#16 + 1#16 = s.cpu.pc + 2#16 := BitVec.add_assoc ..
    rw [← next]
    exact s.fetch8_moves rfl
  refine ⟨fun hb => ?_, fun hb => ?_, fun hb => ?_⟩ <;> unfold State.fetchInstr <;>
    simp only [first, second, third, hb]

end Sys2Proof.Machine

open Sys2Proof Sys2Proof.Machine in
/-- Settles O5: the two cases of `fetch8`, then the fetches of an instruction one after the other; 0xCB is an
opcode of length 2, and CB CB is the square of SET 1,E. -/
theorem haltBugRepeatsByte : Obligations.HaltBugRepeatsByte := by
  intro s
  refine ⟨s.fetch8_fst, fun h => congrArg Prod.snd (s.fetch8_moves h),
    fun h => congrArg Prod.snd (s.fetch8_stays h), fun h => ?_⟩
  obtain ⟨one, two, three⟩ := State.fetchInstr_haltBug h
  refine ⟨one, two, three, fun hb => ?_⟩
  rw [two (by rw [hb]; rfl), hb]
  rfl

end

/-! SUPPORT and proofs. The statements of 40_load.md: loads, stores and stack transfers, and the round trips
of the stack. -/

section

namespace Sys2Proof.Machine

/-! ## The instructions by their operand fields -/

theorem exec_loadReg (r r' : Reg8) (s : State) : exec (.loadReg r r') s = loadReg r r' s := by
  cases r <;> cases r' <;> rfl

theorem exec_loadRegImm (r : Reg8) (n : Byte) (s : State) :
    exec (.loadRegImm r n) s = loadRegImm r n s := by
  cases r <;> rfl

theorem exec_loadRegMem (r : Reg8) (s : State) : exec (.loadRegMem r) s = loadRegMem r s := by
  cases r <;> rfl

theorem exec_storeReg (r : Reg8) (s : State) : exec (.storeReg r) s = storeReg r s := by
  cases r <;> rfl

theorem exec_loadPair (rr : RR) (n : Word) (s : State) : exec (.loadPair rr n) s = loadPairImm rr n s := by
  cases rr <;> rfl

theorem exec_push (rr : StackRR) (s : State) : exec (.push rr) s = pushPair rr s := by
  cases rr <;> rfl

theorem exec_pop (rr : StackRR) (s : State) : exec (.pop rr) s = popPair rr s := by
  cases rr <;> rfl

theorem encode_loadReg (r r' : Reg8) :
    encode (.loadReg r r') = [BitVec.ofNat 8 (0x40 + 8 * r.code + r'.code)] := by
  cases r <;> cases r' <;> rfl

theorem encode_loadRegImm (r : Reg8) (n : Byte) :
    encode (.loadRegImm r n) = [BitVec.ofNat 8 (0x06 + 8 * r.code), n] := by
  cases r <;> rfl

theorem encode_loadRegMem (r : Reg8) :
    encode (.loadRegMem r) = [BitVec.ofNat 8 (0x46 + 8 * r.code)] := by
  cases r <;> rfl

theorem encode_storeReg (r : Reg8) : encode (.storeReg r) = [BitVec.ofNat 8 (0x70 + r.code)] := by
  cases r <;> rfl

theorem encode_loadPair (rr : RR) (n : Word) :
    encode (.loadPair rr n) = [BitVec.ofNat 8 (0x01 + 16 * rr.code), lo n, hi n] := by
  cases rr <;> rfl

theorem encode_push (rr : StackRR) : encode (.push rr) = [BitVec.ofNat 8 (0xC5 + 16 * rr.code)] := by
  cases rr <;> rfl

theorem encode_pop (rr : StackRR) : encode (.pop rr) = [BitVec.ofNat 8 (0xC1 + 16 * rr.code)] := by
  cases rr <;> rfl

/-! ## A store leaves the CPU to its caller -/

/-- What the shapes `storeReg`, `storeImm` and `storeA` answer (40_load.md R163, R164, R167-R174). -/
theorem next_charge_memWrite (s : State) (a : Word) (v : Byte) (n : Nat) :
    (.next ((s.memWrite a v).charge n) : Result) =
      .next { s.memWrite a v with cpu := { s.cpu with stepCost := n } } := by
  rw [State.charge, State.memWrite_cpu]

theorem storeAStep_eq (w : Word) (s : State) :
    storeAStep w s = .next { s.memWrite s.hl s.cpu.a with
      cpu := { s.cpu with h := hi w, l := lo w, stepCost := 8 } } := by
  rw [storeAStep, State.setHl, State.charge, State.memWrite_cpu]

/-- The word's two stores, the low byte first (20_memory.md R75). -/
theorem storeSp_eq (a : Word) (s : State) :
    storeSp a s = .next { (s.memWrite a (lo s.cpu.sp)).memWrite (a + 1#16) (hi s.cpu.sp) with
      cpu := { s.cpu with stepCost := 20 } } := by
  rw [storeSp, State.charge, State.memWrite16_cpu, State.memWrite16]

theorem pushPair_eq (rr : StackRR) (s : State) :
    pushPair rr s = .next { s.pushed (s.readStackRR rr) with
      cpu := { s.cpu with sp := s.cpu.sp - 2#16, stepCost := 16 } } := by
  rw [pushPair, State.charge, State.push16_eq]

/-! ## A pair through the stack -/

/-- A write of a stack pair is no write of SP. -/
@[simp] theorem State.writeStackRR_cpu_sp (s : State) (rr : StackRR) (v : Word) :
    (s.writeStackRR rr v).cpu.sp = s.cpu.sp := by
  cases rr <;> rfl

/-- What a push reads of a pair is what the pair holds again after a pop of it: F's low nibble is masked
both ways (40_load.md R191, R192). -/
theorem State.readStackRR_writeStackRR (s t : State) (rr : StackRR) :
    (t.writeStackRR rr (s.readStackRR rr)).readStackRR rr = s.readStackRR rr := by
  cases rr with
  | af => simp [State.readStackRR, State.writeStackRR, BitVec.and_assoc]
  | _ => exact pair_hi_lo _

/-! ## The round trips of the stack -/

/-- Of the CPU a pop sees SP alone. -/
theorem State.top16_withCpu (s : State) (c : Cpu) :
    ({ s with cpu := c } : State).top16 = pair (s.memRead (c.sp + 1#16)) (s.memRead c.sp) :=
  congrArg₂ pair (s.memRead_withCpu c _) (s.memRead_withCpu c _)

/-- What an interrupt service does before its push: it clears IME, the two latches and the line's request
(60_exceptions.md R323). -/
def State.acknowledged (s : State) : State :=
  { s with
    cpu.ime := false, cpu.eiPending := false, cpu.haltBug := false
    irq.ifl := s.irq.ifl &&& ~~~(1#5 <<< lowestLine s.pending) }

theorem State.serviceInterrupt_eq (s : State) :
    s.serviceInterrupt =
      ((s.acknowledged.push16 s.returnAddress).setPc (vector (lowestLine s.pending))).charge 20 := rfl

/-- The two bytes that a push stores to are two different memory cells, and the DMA blocks neither. -/
def State.StackOpen (s : State) : Prop :=
  ∃ c d, s.cell? (s.cpu.sp - 1#16) = some c ∧ s.cell? (s.cpu.sp - 2#16) = some d ∧ c ≠ d ∧
    s.blocked (s.cpu.sp - 1#16) = false ∧ s.blocked (s.cpu.sp - 2#16) = false

section
variable {s : State} (h : s.StackOpen)
include h

/-- Both stores of a push are read back: the second goes to another cell than the first. -/
theorem State.StackOpen.memRead_pushed (w : Word) :
    (s.pushed w).memRead (s.cpu.sp - 1#16) = hi w ∧ (s.pushed w).memRead (s.cpu.sp - 2#16) = lo w := by
  obtain ⟨c, d, hc, hd, hne, hbc, hbd⟩ := h
  have first : s.memWrite (s.cpu.sp - 1#16) (hi w) = s.writeCell c (hi w) := State.memWrite_cell hc hbc _
  have hd' : (s.memWrite (s.cpu.sp - 1#16) (hi w)).cell? (s.cpu.sp - 2#16) = some d := by
    rw [first, State.writeCell_cell?, hd]
  constructor
  · have other : (s.memWrite (s.cpu.sp - 1#16) (hi w)).cell? (s.cpu.sp - 1#16) ≠ some d := by
      rw [first, State.writeCell_cell?, hc]
      exact fun e => hne (Option.some.inj e)
    rw [State.pushed, State.memRead_memWrite_other hd' other, State.memRead_memWrite_same hc hbc]
  · exact State.memRead_memWrite_same hd' (by rw [first, State.writeCell_blocked, hbd]) _

/-- A pop with SP moved down by two, whatever else changed of the CPU, returns the word pushed. -/
theorem State.StackOpen.top16_pushed (w : Word) {c : Cpu} (hsp : c.sp = s.cpu.sp - 2#16) :
    ({ s.pushed w with cpu := c } : State).top16 = w := by
  obtain ⟨high, low⟩ := h.memRead_pushed w
  have next : c.sp + 1#16 = s.cpu.sp - 1#16 := by bv_omega
  rw [State.top16_withCpu, next, hsp, high, low, pair_hi_lo]

theorem State.StackOpen.top16_push16 (w : Word) : (s.push16 w).top16 = w := by
  rw [State.push16_eq]
  exact h.top16_pushed w rfl

/-- PUSH rr, then POP rr. -/
theorem State.StackOpen.push_pop (rr : StackRR) :
    ∃ t u, exec (.push rr) s = .next t ∧ exec (.pop rr) t = .next u ∧
      u.readStackRR rr = s.readStackRR rr ∧ u.cpu.sp = s.cpu.sp := by
  refine ⟨_, _, (exec_push rr s).trans (pushPair_eq rr s), exec_pop rr _, ?_, ?_⟩
  · rw [h.top16_pushed _ rfl]
    exact State.readStackRR_writeStackRR s _ rr
  · simp [State.drop16]

/-- CALL a16, then RET. -/
theorem State.StackOpen.call_ret (a : Word) :
    ∃ t u, exec (.call_a16 a) s = .next t ∧ t.cpu.pc = a ∧ exec .ret t = .next u ∧
      u.cpu.pc = s.cpu.pc ∧ u.cpu.sp = s.cpu.sp := by
  refine ⟨_, _, rfl, rfl, rfl, ?_, ?_⟩
  · exact h.top16_push16 s.cpu.pc
  · simp [State.returnFromCall, State.drop16]

/-- An interrupt service, then RETI: the service's changes of IME, the latches and IF are none of the
stack's. -/
theorem State.StackOpen.service_reti :
    ∃ u, exec .reti s.serviceInterrupt = .next u ∧ u.cpu.pc = s.returnAddress ∧
      u.cpu.sp = s.cpu.sp ∧ u.cpu.ime = true := by
  have ha : s.acknowledged.StackOpen := h
  refine ⟨_, rfl, ?_, ?_, rfl⟩
  · rw [State.serviceInterrupt_eq]
    exact ha.top16_push16 s.returnAddress
  · simp [State.serviceInterrupt_eq, State.returnFromInterrupt, State.returnFromCall, State.drop16,
      State.acknowledged]

end

end Sys2Proof.Machine

open Sys2Proof.Machine in
/-- Settles O16: with the stack's two cells open, a pop after a push returns the word pushed. -/
theorem stackRoundTrip : Obligations.StackRoundTrip := by
  intro s c d hc hd hne hbc hbd
  have h : s.StackOpen := ⟨c, d, hc, hd, hne, hbc, hbd⟩
  exact ⟨h.push_pop, h.call_ret, h.service_reti⟩

open Sys2Proof.Machine in
/-- Settles O11: each form of the two fields is one constructor, whose meaning is the shape's. -/
theorem loadRegister : Obligations.LoadRegister :=
  fun r r' n s => ⟨encode_loadReg r r', exec_loadReg r r' s, encode_loadRegImm r n, exec_loadRegImm r n s⟩

open Sys2Proof.Machine in
/-- Settles O12: each form is a load of a register from the address it computes. -/
theorem byteLoads : Obligations.ByteLoads := by
  intro r n a s
  rw [← highPage_eq, ← highPage_eq]
  exact ⟨⟨encode_loadRegMem r, exec_loadRegMem r s⟩, ⟨rfl, rfl⟩, ⟨rfl, rfl⟩, ⟨rfl, rfl⟩, ⟨rfl, rfl⟩,
    ⟨rfl, rfl⟩, ⟨rfl, rfl⟩, ⟨rfl, rfl⟩⟩

open Sys2Proof.Machine in
/-- Settles O13: each form is one write of the bus, which leaves the CPU as it was. -/
theorem byteStores : Obligations.ByteStores := by
  intro r n a s
  rw [← highPage_eq, ← highPage_eq]
  have store := next_charge_memWrite s
  exact ⟨⟨encode_storeReg r, (exec_storeReg r s).trans (store ..)⟩, ⟨rfl, store ..⟩, ⟨rfl, store ..⟩,
    ⟨rfl, store ..⟩, ⟨rfl, store ..⟩, ⟨rfl, store ..⟩, ⟨rfl, store ..⟩,
    ⟨rfl, storeAStep_eq ..⟩, ⟨rfl, storeAStep_eq ..⟩⟩

open Sys2Proof.Machine in
/-- Settles O14: a write of a pair, the two stores of a word, and a write of SP. -/
theorem wordLoads : Obligations.WordLoads :=
  fun rr n a s => ⟨⟨encode_loadPair rr n, exec_loadPair rr n s⟩, ⟨rfl, storeSp_eq a s⟩, ⟨rfl, rfl⟩⟩

open Sys2Proof.Machine in
/-- Settles O15: a push is its two stores and SP's move; a pop writes the pair that its field names. -/
theorem pushAndPop : Obligations.PushAndPop := by
  intro rr s
  refine ⟨encode_push rr, encode_pop rr, ?_, ?_⟩
  · rw [exec_push, pushPair_eq]
    cases rr <;> rfl
  · rw [exec_pop]
    cases rr <;> rfl

end

/-! SUPPORT and proofs. The statements of 41_alu8.md: 8-bit arithmetic and logic, the decimal law of DAA, and
the pairs of instructions that undo each other. -/

section

namespace Sys2Proof.Machine

/-! ## Bytes and flags on unbounded integers -/

theorem State.carryIn_eq (s : State) : s.carryIn = s.flagC.toNat := by
  cases h : s.flagC <;> simp [State.carryIn, h]

theorem toNat_carryByte (c : Bool) : (carryByte c).toNat = c.toNat := by
  cases c <;> rfl

theorem isZero_iff (w : Byte) : isZero w = true ↔ w = 0#8 := decide_eq_true_iff

theorem isZero_iff_toNat (w : Byte) : isZero w = true ↔ w.toNat = 0 := by
  rw [isZero_iff, BitVec.toNat_eq, BitVec.toNat_ofNat, Nat.zero_mod]

/-- A byte is an integer's residue modulo 256. -/
theorem eq_ofInt_iff (w : Byte) (n : Int) : w = BitVec.ofInt 8 n ↔ (w.toNat : Int) = n % 256 := by
  rw [BitVec.toNat_eq, BitVec.toNat_ofInt]
  omega

theorem toNat_ofInt_byte (n : Int) : ((BitVec.ofInt 8 n).toNat : Int) = n % 256 :=
  (eq_ofInt_iff _ n).mp rfl

theorem isZero_ofInt (n : Int) : isZero (BitVec.ofInt 8 n) = true ↔ n % 256 = 0 := by
  rw [isZero_iff_toNat, ← toNat_ofInt_byte, Int.natCast_eq_zero]

theorem sum_eq_ofInt (a v : Byte) (c : Bool) :
    a + v + carryByte c = BitVec.ofInt 8 (a.toNat + v.toNat + c.toNat) := by
  rw [eq_ofInt_iff, BitVec.toNat_add, BitVec.toNat_add, toNat_carryByte]
  omega

theorem difference_eq_ofInt (a v : Byte) (c : Bool) :
    a - v - carryByte c = BitVec.ofInt 8 (a.toNat - v.toNat - c.toNat) := by
  rw [eq_ofInt_iff, BitVec.toNat_sub, BitVec.toNat_sub, toNat_carryByte]
  have := c.toNat_le
  omega

/-- The flags of `a + v + c` (41_alu8.md R200, R201). -/
theorem sum_flags (f a v : Byte) (c : Bool) :
    FlagsWritten f (packFlags f (isZero (a + v + carryByte c)) false (halfCarry a v c) (carry a v c))
      (((a.toNat : Int) + v.toNat + c.toNat) % 256 = 0) False
      ((a.toNat : Int) % 16 + v.toNat % 16 + c.toNat > 0xF)
      ((a.toNat : Int) + v.toNat + c.toNat > 0xFF) := by
  apply packFlags_of
  · rw [sum_eq_ofInt, isZero_ofInt]
  · exact Bool.false_eq_true.to_iff
  · rw [halfCarry, decide_eq_true_iff]
    omega
  · rw [carry, decide_eq_true_iff]
    omega

/-- The flags of `a - v - c` (41_alu8.md R202, R203, R207). -/
theorem difference_flags (f a v : Byte) (c : Bool) :
    FlagsWritten f (packFlags f (isZero (a - v - carryByte c)) true (halfBorrow a v c) (borrow a v c))
      (((a.toNat : Int) - v.toNat - c.toNat) % 256 = 0) True
      ((a.toNat : Int) % 16 < v.toNat % 16 + c.toNat) ((a.toNat : Int) < v.toNat + c.toNat) := by
  apply packFlags_of
  · rw [difference_eq_ofInt, isZero_ofInt]
  · exact iff_true_intro rfl
  · rw [halfBorrow, decide_eq_true_iff]
    omega
  · rw [borrow, decide_eq_true_iff]
    omega

/-! ## What flag writes and the cost leave alone -/

@[simp] theorem State.flagN_charge (s : State) (n : Nat) : (s.charge n).flagN = s.flagN := rfl

@[simp] theorem State.flagH_charge (s : State) (n : Nat) : (s.charge n).flagH = s.flagH := rfl

@[simp] theorem State.flagC_charge (s : State) (n : Nat) : (s.charge n).flagC = s.flagC := rfl

@[simp] theorem State.reg8_charge (s : State) (n : Nat) (r : Reg8) : (s.charge n).reg8 r = s.reg8 r := by
  cases r <;> rfl

@[simp] theorem State.reg8_setFlags (s : State) (z n h c : Bool) (r : Reg8) :
    (s.setFlags z n h c).reg8 r = s.reg8 r := by
  cases r <;> rfl

/-! ## The instructions by their operand fields -/

/-- What a two-operand operation does with A and its operand's value (41_alu8.md R200-R207). -/
def aluStep : AluOp → Byte → State → State
  | .add => addA
  | .adc => adcA
  | .sub => subA
  | .sbc => sbcA
  | .and => andA
  | .xor => xorA
  | .or => orA
  | .cp => cpA

theorem exec_alu (op : AluOp) (src : AluSrc) (s : State) :
    exec (.alu op src) s = .next ((aluStep op (s.aluOperand src) s).charge (aluCost src)) := by
  rcases src with (r | _) | n
  · cases op <;> cases r <;> rfl
  all_goals cases op <;> rfl

theorem exec_inc (k : R8) (s : State) : exec (.inc k) s = incR8 k s := by
  rcases k with r | _
  · cases r <;> rfl
  · rfl

theorem exec_dec (k : R8) (s : State) : exec (.dec k) s = decR8 k s := by
  rcases k with r | _
  · cases r <;> rfl
  · rfl

theorem exec_rotate (o : RotOp) (k : R8) (s : State) :
    exec (.rotate o k) s = rotR8 (rotateField o.code) k s := by
  rcases k with r | _
  · cases o <;> cases r <;> rfl
  · cases o <;> rfl

theorem encode_aluR8 (op : AluOp) (k : R8) :
    encode (.alu op (.r8 k)) = [BitVec.ofNat 8 (0x80 + 8 * op.code + k.code)] := by
  rcases k with r | _
  · cases op <;> cases r <;> rfl
  · cases op <;> rfl

theorem encode_aluImm (op : AluOp) (n : Byte) :
    encode (.alu op (.imm n)) = [BitVec.ofNat 8 (0xC6 + 8 * op.code), n] := by
  cases op <;> rfl

theorem encode_inc (k : R8) : encode (.inc k) = [BitVec.ofNat 8 (0x04 + 8 * k.code)] := by
  rcases k with r | _
  · cases r <;> rfl
  · rfl

theorem encode_dec (k : R8) : encode (.dec k) = [BitVec.ofNat 8 (0x05 + 8 * k.code)] := by
  rcases k with r | _
  · cases r <;> rfl
  · rfl

/-! ## Sums, differences and bitwise operations on A -/

/-- What ADD and ADC do, with the carry that goes in (41_alu8.md R200, R201). -/
def addWithCarry (v : Byte) (c : Bool) (s : State) : State :=
  (s.setA (s.cpu.a + v + carryByte c)).setFlags (isZero (s.cpu.a + v + carryByte c)) false
    (halfCarry s.cpu.a v c) (carry s.cpu.a v c)

/-- What SUB and SBC do, with the borrow that goes in (41_alu8.md R202, R203). -/
def subWithBorrow (v : Byte) (c : Bool) (s : State) : State :=
  (s.setA (s.cpu.a - v - carryByte c)).setFlags (isZero (s.cpu.a - v - carryByte c)) true
    (halfBorrow s.cpu.a v c) (borrow s.cpu.a v c)

theorem addA_eq (v : Byte) (s : State) : addA v s = addWithCarry v false s := by
  simp [addA, addWithCarry, carryByte]

theorem adcA_eq (v : Byte) (s : State) : adcA v s = addWithCarry v s.flagC s := rfl

theorem subA_eq (v : Byte) (s : State) : subA v s = subWithBorrow v false s := by
  simp [subA, subWithBorrow, carryByte]

theorem sbcA_eq (v : Byte) (s : State) : sbcA v s = subWithBorrow v s.flagC s := rfl

section
variable {op : AluOp} {src : AluSrc} {s : State}

/-- An operation that writes `w` to A and the four flags writes nothing else but the cost. -/
theorem exec_alu_writesA {w : Byte} {z n h c : Bool}
    (step : aluStep op (s.aluOperand src) s = (s.setA w).setFlags z n h c) :
    exec (.alu op src) s =
      .next { s with
        cpu.a := w, cpu.f := packFlags s.cpu.f z n h c, cpu.stepCost := aluCost src } := by
  rw [exec_alu, step]
  rfl

theorem exec_alu_sum {c : Bool}
    (step : aluStep op (s.aluOperand src) s = addWithCarry (s.aluOperand src) c s) :
    let a : Int := s.cpu.a.toNat
    let v : Int := (s.aluOperand src).toNat
    ∃ f, exec (.alu op src) s =
        .next { s with
          cpu.a := BitVec.ofInt 8 (a + v + c.toNat), cpu.f := f, cpu.stepCost := aluCost src } ∧
      FlagsWritten s.cpu.f f ((a + v + c.toNat) % 256 = 0) False (a % 16 + v % 16 + c.toNat > 0xF)
        (a + v + c.toNat > 0xFF) := by
  refine ⟨_, ?_, sum_flags s.cpu.f s.cpu.a (s.aluOperand src) c⟩
  rw [exec_alu_writesA step, sum_eq_ofInt]

theorem exec_alu_difference {c : Bool}
    (step : aluStep op (s.aluOperand src) s = subWithBorrow (s.aluOperand src) c s) :
    let a : Int := s.cpu.a.toNat
    let v : Int := (s.aluOperand src).toNat
    ∃ f, exec (.alu op src) s =
        .next { s with
          cpu.a := BitVec.ofInt 8 (a - v - c.toNat), cpu.f := f, cpu.stepCost := aluCost src } ∧
      FlagsWritten s.cpu.f f ((a - v - c.toNat) % 256 = 0) True (a % 16 < v % 16 + c.toNat)
        (a < v + c.toNat) := by
  refine ⟨_, ?_, difference_flags s.cpu.f s.cpu.a (s.aluOperand src) c⟩
  rw [exec_alu_writesA step, difference_eq_ofInt]

theorem exec_alu_bitwise {w : Byte} {h : Bool} {H : Prop}
    (step : aluStep op (s.aluOperand src) s = (s.setA w).setFlags (isZero w) false h false)
    (half : h = true ↔ H) :
    ∃ f, exec (.alu op src) s =
        .next { s with cpu.a := w, cpu.f := f, cpu.stepCost := aluCost src } ∧
      FlagsWritten s.cpu.f f (w = 0#8) False H False :=
  ⟨_, exec_alu_writesA step, packFlags_of _ (isZero_iff w) Bool.false_eq_true.to_iff half
    Bool.false_eq_true.to_iff⟩

end

/-! ## INC and DEC -/

@[simp] theorem State.writeR8_cpu_f (s : State) (k : R8) (v : Byte) :
    (s.writeR8 k v).cpu.f = s.cpu.f := by
  cases k <;> simp [State.writeR8]

theorem r8Cost_eq (k : R8) (reg mem : Nat) : r8Cost k reg mem = if k = .atHL then mem else reg := by
  cases k <;> simp [r8Cost]

theorem add_one_eq_ofNat (v : Byte) : v + 1#8 = BitVec.ofNat 8 (v.toNat + 1) := by
  rw [BitVec.ofNat_add, BitVec.ofNat_toNat, BitVec.setWidth_eq]

/-- Minus one is plus 255. -/
theorem sub_one_eq_ofNat (v : Byte) : v - 1#8 = BitVec.ofNat 8 (v.toNat + 255) := by
  rw [BitVec.ofNat_add, BitVec.ofNat_toNat, BitVec.setWidth_eq, BitVec.sub_eq_add_neg]
  rfl

/-- A write of an r8 operand, of the flags and of the cost, in the statements' words. -/
theorem State.setFlags_charge_writeR8 (s : State) (k : R8) (w : Byte) (z n h c : Bool) (reg mem : Nat) :
    ((s.writeR8 k w).setFlags z n h c).charge (r8Cost k reg mem) =
      { s.writeR8 k w with
        cpu := { (s.writeR8 k w).cpu with
          f := packFlags s.cpu.f z n h c, stepCost := if k = .atHL then mem else reg } } := by
  rw [State.charge, State.setFlags, State.writeR8_cpu_f, r8Cost_eq]

theorem isZero_add_one (v : Byte) : isZero (v + 1#8) = true ↔ v.toNat = 0xFF := by
  rw [isZero_iff]
  bv_omega

theorem isZero_sub_one (v : Byte) : isZero (v - 1#8) = true ↔ v.toNat = 1 := by
  rw [isZero_iff]
  bv_omega

theorem incR8_eq (k : R8) (s : State) :
    let v := s.readR8 k
    let t := s.writeR8 k (BitVec.ofNat 8 (v.toNat + 1))
    incR8 k s = .next { t with
      cpu := { t.cpu with
        f := packFlags s.cpu.f (isZero (v + 1#8)) false (decide (v.toNat % 16 = 0xF)) s.flagC
        stepCost := if k = .atHL then 12 else 4 } } := by
  simp only [incR8, State.setFlags_charge_writeR8, add_one_eq_ofNat]

theorem decR8_eq (k : R8) (s : State) :
    let v := s.readR8 k
    let t := s.writeR8 k (BitVec.ofNat 8 (v.toNat + 255))
    decR8 k s = .next { t with
      cpu := { t.cpu with
        f := packFlags s.cpu.f (isZero (v - 1#8)) true (decide (v.toNat % 16 = 0)) s.flagC
        stepCost := if k = .atHL then 12 else 4 } } := by
  simp only [decR8, State.setFlags_charge_writeR8, sub_one_eq_ofNat]

/-! ## DAA -/

/-- After an addition: the low digit's correction is decided by the old A, since adding 0x60 leaves that digit
(41_alu8.md R212). -/
theorem daaValue_sum (a : Byte) (h c : Bool) :
    daaValue a false h c =
      (BitVec.ofInt 8 (a.toNat + (if c = true ∨ (a.toNat : Int) > 0x99 then 0x60 else 0) +
        (if h = true ∨ (a.toNat : Int) % 16 > 0x09 then 0x06 else 0)),
        c || decide (a.toNat > 0x99)) := by
  have high : (c || decide (a.toNat > 0x99)) = true ↔ c = true ∨ (a.toNat : Int) > 0x99 := by simp
  have low (b : Byte) (hb : b.toNat % 16 = a.toNat % 16) :
      (h || decide (b.toNat % 16 > 0x09)) = true ↔ h = true ∨ (a.toNat : Int) % 16 > 0x09 := by
    rw [hb, Bool.or_eq_true, decide_eq_true_iff]
    exact or_congr_right (by omega)
  have digit : (a + 0x60#8).toNat % 16 = a.toNat % 16 := by
    rw [BitVec.toNat_add, BitVec.toNat_ofNat]
    omega
  refine Prod.ext ((eq_ofInt_iff ..).mpr ?_) rfl
  simp only [daaValue, Bool.false_eq_true, if_false, high]
  split
  · simp only [low _ digit]
    split <;> bv_omega
  · simp only [low _ rfl]
    split <;> bv_omega

/-- After a subtraction (41_alu8.md R212). -/
theorem daaValue_difference (a : Byte) (h c : Bool) :
    daaValue a true h c =
      (BitVec.ofInt 8 (a.toNat - (if c then 0x60 else 0) - (if h then 0x06 else 0)), c) := by
  refine Prod.ext ((eq_ofInt_iff ..).mpr ?_) rfl
  simp only [daaValue, if_true]
  split <;> split <;> bv_omega

/-- The two cases of N in one, in the statements' words. -/
theorem daaValue_eq (a : Byte) (n h c : Bool) :
    daaValue a n h c =
      (BitVec.ofInt 8 (if n then a.toNat - (if c then 0x60 else 0) - (if h then 0x06 else 0)
        else a.toNat + (if c = true ∨ (a.toNat : Int) > 0x99 then 0x60 else 0) +
          (if h = true ∨ (a.toNat : Int) % 16 > 0x09 then 0x06 else 0)),
        c || (!n && decide (a.toNat > 0x99))) := by
  cases n with
  | true => simp [daaValue_difference]
  | false => simp [daaValue_sum]

/-- DAA writes the adjusted A, and Z from it (41_alu8.md R212). -/
theorem exec_daa_of_daaValue {s : State} {w : Byte} {c : Bool} {Z C : Prop}
    (value : daaValue s.cpu.a s.flagN s.flagH s.flagC = (w, c)) (hz : isZero w = true ↔ Z)
    (hc : c = true ↔ C) :
    ∃ f, exec .daa s = .next { s with cpu.a := w, cpu.f := f, cpu.stepCost := 4 } ∧
      FlagsWritten s.cpu.f f Z (s.flagN = true) False C := by
  refine ⟨packFlags s.cpu.f (isZero w) s.flagN false c, ?_,
    packFlags_of _ hz Iff.rfl Bool.false_eq_true.to_iff hc⟩
  change decimalAdjust s = _
  rw [decimalAdjust, value]
  rfl

/-! ## Decimal bytes -/

theorem toNat_bcd {p q : Nat} (hp : p < 10) (hq : q < 10) : (bcd (10 * p + q)).toNat = 16 * p + q := by
  rw [bcd, BitVec.toNat_ofNat]
  omega

theorem exists_digits {n : Nat} (h : n < 100) : ∃ p q, p < 10 ∧ q < 10 ∧ n = 10 * p + q :=
  ⟨n / 10, n % 10, by omega, by omega, by omega⟩

theorem isZero_bcd {n : Nat} (h : n < 100) : isZero (bcd n) = true ↔ n = 0 := by
  obtain ⟨p, q, hp, hq, rfl⟩ := exists_digits h
  rw [isZero_iff_toNat, toNat_bcd hp hq]
  omega

/-- One column of a decimal addition: the digit `d` and the carry `k` into the next column. -/
theorem digit_sum {a b c : Nat} (ha : a < 10) (hb : b < 10) (hc : c ≤ 1) :
    ∃ k d, (k = 0 ∨ k = 1) ∧ d < 10 ∧ a + b + c = 10 * k + d :=
  ⟨(a + b + c) / 10, (a + b + c) % 10, by omega, by omega, by omega⟩

/-- One column of a decimal subtraction: the digit `d` and the borrow `k` from the next column. -/
theorem digit_difference {a b c : Nat} (ha : a < 10) (hb : b < 10) (hc : c ≤ 1) :
    ∃ k d, (k = 0 ∨ k = 1) ∧ d < 10 ∧ a + 10 * k = b + c + d := by
  by_cases h : a < b + c
  · exact ⟨1, a + 10 - (b + c), by omega, by omega, by omega⟩
  · exact ⟨0, a - (b + c), by omega, by omega, by omega⟩

/-- A sum of bytes, with the 256 that its carry stands for. -/
theorem toNat_sum (a v : Byte) (c : Bool) :
    ∃ m, (m = 0 ∨ m = 1) ∧ (a + v + carryByte c).toNat + 256 * m = a.toNat + v.toNat + c.toNat := by
  have hc := c.toNat_le
  rw [BitVec.toNat_add, BitVec.toNat_add, toNat_carryByte]
  exact ⟨(a.toNat + v.toNat + c.toNat) / 256, by omega, by omega⟩

section
variable {x y : Nat} (hx : x < 100) (hy : y < 100) (c : Bool)
include hx hy

/-- DAA after an addition of decimal bytes (41_alu8.md R200, R201, R212): a column with a carry is
corrected by 6. -/
theorem daaValue_bcd_sum :
    daaValue (bcd x + bcd y + carryByte c) false (halfCarry (bcd x) (bcd y) c) (carry (bcd x) (bcd y) c) =
      (bcd ((x + y + c.toNat) % 100), decide (100 ≤ x + y + c.toNat)) := by
  have hc := c.toNat_le
  obtain ⟨x₁, x₀, hx₁, hx₀, rfl⟩ := exists_digits hx
  obtain ⟨y₁, y₀, hy₁, hy₀, rfl⟩ := exists_digits hy
  obtain ⟨k₀, d₀, hk₀, hd₀, low⟩ := digit_sum hx₀ hy₀ hc
  obtain ⟨k₁, d₁, hk₁, hd₁, high⟩ := digit_sum hx₁ hy₁ (show k₀ ≤ 1 by omega)
  obtain ⟨m, hm, sum⟩ := toNat_sum (bcd (10 * x₁ + x₀)) (bcd (10 * y₁ + y₀)) c
  rw [toNat_bcd hx₁ hx₀, toNat_bcd hy₁ hy₀] at sum
  have result : (10 * x₁ + x₀ + (10 * y₁ + y₀) + c.toNat) % 100 = 10 * d₁ + d₀ := by omega
  rw [daaValue_sum, result]
  simp only [halfCarry, carry, decide_eq_true_iff, toNat_bcd hx₁ hx₀, toNat_bcd hy₁ hy₀]
  refine Prod.ext ((eq_ofInt_iff ..).mpr ?_).symm ?_
  · rw [toNat_bcd hd₁ hd₀]
    obtain rfl | rfl := hm <;> obtain rfl | rfl := hk₀ <;> obtain rfl | rfl := hk₁ <;>
      split <;> split <;> omega
  · rw [← Bool.decide_or, decide_eq_decide]
    omega

/-- DAA after a subtraction of decimal bytes (41_alu8.md R202, R203, R212): a column with a borrow is
corrected by 6. -/
theorem daaValue_bcd_difference :
    daaValue (bcd x - bcd y - carryByte c) true (halfBorrow (bcd x) (bcd y) c) (borrow (bcd x) (bcd y) c) =
      (bcd ((100 + x - (y + c.toNat)) % 100), decide (x < y + c.toNat)) := by
  have hc := c.toNat_le
  obtain ⟨x₁, x₀, hx₁, hx₀, rfl⟩ := exists_digits hx
  obtain ⟨y₁, y₀, hy₁, hy₀, rfl⟩ := exists_digits hy
  obtain ⟨k₀, d₀, hk₀, hd₀, low⟩ := digit_difference hx₀ hy₀ hc
  obtain ⟨k₁, d₁, hk₁, hd₁, high⟩ := digit_difference hx₁ hy₁ (show k₀ ≤ 1 by omega)
  have result : (100 + (10 * x₁ + x₀) - (10 * y₁ + y₀ + c.toNat)) % 100 = 10 * d₁ + d₀ := by omega
  rw [daaValue_difference, difference_eq_ofInt, toNat_ofInt_byte, result]
  simp only [halfBorrow, borrow, decide_eq_true_iff, toNat_bcd hx₁ hx₀, toNat_bcd hy₁ hy₀]
  refine Prod.ext ((eq_ofInt_iff ..).mpr ?_).symm ?_
  · rw [toNat_bcd hd₁ hd₀]
    obtain rfl | rfl := hk₀ <;> obtain rfl | rfl := hk₁ <;> split <;> split <;> omega
  · rw [decide_eq_decide]
    omega

section
variable {s : State} {i : Instr} {c} (ha : s.cpu.a = bcd x)
include ha

theorem daa_after_sum (hi : exec i s = .next ((addWithCarry (bcd y) c s).charge 8)) :
    ∃ t u, exec i s = .next t ∧ exec .daa t = .next u ∧ u.cpu.a = bcd ((x + y + c.toNat) % 100) ∧
      (u.flagC = true ↔ 100 ≤ x + y + c.toNat) ∧ (u.flagZ = true ↔ (x + y + c.toNat) % 100 = 0) := by
  have value := daaValue_bcd_sum hx hy c
  rw [← ha] at value
  obtain ⟨f, daa, flags⟩ := exec_daa_of_daaValue (s := (addWithCarry (bcd y) c s).charge 8)
    (by simpa [addWithCarry] using value) (isZero_bcd (Nat.mod_lt _ (by decide))) decide_eq_true_iff
  exact ⟨_, _, hi, daa, rfl, flags.c, flags.z⟩

theorem daa_after_difference (hi : exec i s = .next ((subWithBorrow (bcd y) c s).charge 8)) :
    ∃ t u, exec i s = .next t ∧ exec .daa t = .next u ∧
      u.cpu.a = bcd ((100 + x - (y + c.toNat)) % 100) ∧ (u.flagC = true ↔ x < y + c.toNat) ∧
      (u.flagZ = true ↔ (100 + x - (y + c.toNat)) % 100 = 0) := by
  have value := daaValue_bcd_difference hx hy c
  rw [← ha] at value
  obtain ⟨f, daa, flags⟩ := exec_daa_of_daaValue (s := (subWithBorrow (bcd y) c s).charge 8)
    (by simpa [subWithBorrow] using value) (isZero_bcd (Nat.mod_lt _ (by decide))) decide_eq_true_iff
  exact ⟨_, _, hi, daa, rfl, flags.c, flags.z⟩

end

end

/-! ## Pairs of instructions that undo each other -/

theorem getLsbD_carryByte (c : Bool) (i : Nat) : (carryByte c).getLsbD i = (decide (i = 0) && c) := by
  cases c <;> simp [carryByte]

/-- RL moves each bit up and the carry in at the bottom (43_bitops.md R246). -/
theorem getLsbD_rlValue (v : Byte) (c : Bool) {i : Nat} (hi : i < 8) :
    (rlValue v c).1.getLsbD i = if i = 0 then c else v.getLsbD (i - 1) := by
  rw [rlValue, BitVec.getLsbD_or, BitVec.getLsbD_shiftLeft, getLsbD_carryByte]
  cases i <;> simp [hi]

/-- RR moves each bit down and the carry in at the top (43_bitops.md R247). -/
theorem getLsbD_rrValue (v : Byte) (c : Bool) {i : Nat} (hi : i < 8) :
    (rrValue v c).1.getLsbD i = if i = 7 then c else v.getLsbD (i + 1) := by
  rw [rrValue, BitVec.getLsbD_or, BitVec.getLsbD_shiftLeft, BitVec.getLsbD_ushiftRight, getLsbD_carryByte]
  obtain h | rfl : i < 7 ∨ i = 7 := by omega
  · simp [h, Nat.ne_of_lt h, Nat.add_comm 1 i]
  · simp

theorem rrValue_rlValue (v : Byte) (c : Bool) : rrValue (rlValue v c).1 (rlValue v c).2 = (v, c) := by
  refine Prod.ext (BitVec.eq_of_getLsbD_eq fun i hi => ?_) ?_
  · rw [getLsbD_rrValue _ _ hi]
    obtain h | rfl : i < 7 ∨ i = 7 := by omega
    · simp [Nat.ne_of_lt h, getLsbD_rlValue _ _ (Nat.succ_lt_succ h)]
    · rfl
  · exact getLsbD_rlValue v c (by decide)

/-- RLC is RL with the byte's own top bit for the carry, and RRC is RR with its own bottom bit (43_bitops.md
R244, R245). -/
theorem rrcValue_rlcValue (v : Byte) (c : Bool) : (rrcValue (rlcValue v c).1 (rlcValue v c).2).1 = v := by
  have bottom : (rlcValue v c).1.getLsbD 0 = v.getLsbD 7 := getLsbD_rlValue v _ (by decide)
  calc (rrcValue (rlcValue v c).1 (rlcValue v c).2).1
    _ = (rrValue (rlcValue v c).1 ((rlcValue v c).1.getLsbD 0)).1 := rfl
    _ = (rrValue (rlValue v (v.getLsbD 7)).1 (rlValue v (v.getLsbD 7)).2).1 := by rw [bottom]; rfl
    _ = v := by rw [rrValue_rlValue]

theorem swapValue_swapValue (v : Byte) (c : Bool) :
    (swapValue (swapValue v c).1 (swapValue v c).2).1 = v := by
  apply BitVec.eq_of_getLsbD_eq
  intro i hi
  simp only [swapValue]
  interval_cases i <;> simp

/-- `i` writes to the register `r` and to C what `f` says of the two, and else only flags and the cost. -/
def Applies (f : Rotate) (r : Reg8) (i : Instr) : Prop :=
  ∀ s : State, ∃ z n h cost, exec i s =
    .next (((s.setReg8 r (f (s.reg8 r) s.flagC).1).setFlags z n h (f (s.reg8 r) s.flagC).2).charge cost)

theorem applies_add (n : Byte) : Applies (fun v _ => (v + n, carry v n false)) .a (.add_A_d8 n) :=
  fun _ => ⟨_, _, _, _, rfl⟩

theorem applies_sub (n : Byte) : Applies (fun v _ => (v - n, borrow v n false)) .a (.sub_d8 n) :=
  fun _ => ⟨_, _, _, _, rfl⟩

theorem applies_inc (r : Reg8) : Applies (fun v c => (v + 1#8, c)) r (.inc (.reg r)) :=
  fun s => ⟨_, _, _, _, exec_inc (.reg r) s⟩

theorem applies_dec (r : Reg8) : Applies (fun v c => (v - 1#8, c)) r (.dec (.reg r)) :=
  fun s => ⟨_, _, _, _, exec_dec (.reg r) s⟩

theorem applies_rotate (o : RotOp) (r : Reg8) : Applies (rotateField o.code) r (.rotate o (.reg r)) :=
  fun s => ⟨_, _, _, _, exec_rotate o (.reg r) s⟩

theorem applies_rla : Applies rlValue .a .rla := fun _ => ⟨_, _, _, _, rfl⟩

theorem applies_rra : Applies rrValue .a .rra := fun _ => ⟨_, _, _, _, rfl⟩

theorem applies_rlca : Applies rlcValue .a .rlca := fun _ => ⟨_, _, _, _, rfl⟩

theorem applies_rrca : Applies rrcValue .a .rrca := fun _ => ⟨_, _, _, _, rfl⟩

/-- Where the second of two writes of a register undoes the first, only F and the cost are new. -/
theorem Applies.roundTrip {f g : Rotate} {r : Reg8} {i j : Instr} {s : State} {keepsC : Bool}
    (hi : Applies f r i) (hj : Applies g r j)
    (value : ∀ v c, (g (f v c).1 (f v c).2).1 = v)
    (carry : keepsC = true → ∀ v c, (g (f v c).1 (f v c).2).2 = c) :
    ∃ t u, exec i s = .next t ∧ exec j t = .next u ∧
      u = { s with cpu.f := u.cpu.f, cpu.stepCost := u.cpu.stepCost } ∧
      (keepsC = true → u.flagC = s.flagC) := by
  obtain ⟨z, n, h, cost, first⟩ := hi s
  obtain ⟨z', n', h', cost', second⟩ := hj
    (((s.setReg8 r (f (s.reg8 r) s.flagC).1).setFlags z n h (f (s.reg8 r) s.flagC).2).charge cost)
  simp only [State.reg8_charge, State.reg8_setFlags, State.reg8_setReg8_same, State.flagC_charge,
    State.flagC_setFlags, value] at second
  refine ⟨_, _, first, second, ?_, fun hk => ?_⟩
  · cases r <;> rfl
  · rw [State.flagC_charge, State.flagC_setFlags, carry hk]

end Sys2Proof.Machine

open Sys2Proof.Machine in
/-- Settles O17: ADC and SBC are the sum and the difference with F.C, ADD and SUB those with no carry in, and
CP's flags are SUB's. -/
theorem addSubtractCompare : Obligations.AddSubtractCompare := by
  intro src s
  refine ⟨fun op => ?_, ?_, ?_, ?_, ?_, ?_⟩
  · cases src with
    | r8 k => exact encode_aluR8 op k
    | imm n => exact encode_aluImm op n
  · simpa using exec_alu_sum (op := .add) (addA_eq (s.aluOperand src) s)
  · rw [State.carryIn_eq]
    exact exec_alu_sum (adcA_eq (s.aluOperand src) s)
  · simpa using exec_alu_difference (op := .sub) (subA_eq (s.aluOperand src) s)
  · rw [State.carryIn_eq]
    exact exec_alu_difference (sbcA_eq (s.aluOperand src) s)
  · have flags := difference_flags s.cpu.f s.cpu.a (s.aluOperand src) false
    refine ⟨_, exec_alu .cp src s, ?_⟩
    simpa [aluStep, cpA, carryByte] using flags

open Sys2Proof.Machine in
/-- Settles O20: `daaValue_eq` is the correction by cases of N, downwards after a subtraction and upwards after
an addition. -/
theorem decimalAdjust : Obligations.DecimalAdjust := by
  intro s
  have value := daaValue_eq s.cpu.a s.flagN s.flagH s.flagC
  exact ⟨rfl, exec_daa_of_daaValue value (isZero_ofInt _) (by simp)⟩

open Sys2Proof.Machine in
/-- Settles O21: column by column, DAA's corrections are the decimal carries and borrows. -/
theorem decimalArithmetic : Obligations.DecimalArithmetic := by
  intro s x y hx hy ha
  have add : exec (.add_A_d8 (bcd y)) s = .next ((addWithCarry (bcd y) false s).charge 8) := by
    rw [← addA_eq]
    rfl
  have sub : exec (.sub_d8 (bcd y)) s = .next ((subWithBorrow (bcd y) false s).charge 8) := by
    rw [← subA_eq]
    rfl
  have zero : (100 + x - y) % 100 = 0 ↔ x = y := by omega
  rw [State.carryIn_eq]
  refine ⟨?_, daa_after_sum hx hy ha rfl, ?_, daa_after_difference hx hy ha rfl⟩
  · exact daa_after_sum hx hy ha add
  · simpa [zero] using daa_after_difference hx hy ha sub

open Sys2Proof.Machine in
/-- Settles O28: each of the pairs writes one register twice, and the second write undoes the first. -/
theorem roundTripLaws : Obligations.RoundTripLaws := by
  intro s r n
  have drop {P : Prop} : false = true → P := fun h => nomatch h
  have value v c : (rrValue (rlValue v c).1 (rlValue v c).2).1 = v := by rw [rrValue_rlValue]
  have carry v c : (rrValue (rlValue v c).1 (rlValue v c).2).2 = c := by rw [rrValue_rlValue]
  refine ⟨?_, ?_, ?_, ?_, ?_, ?_, ?_⟩
  · exact (applies_add n).roundTrip (applies_sub n) (fun v _ => BitVec.add_sub_cancel v n) drop
  · exact (applies_inc r).roundTrip (applies_dec r) (fun v _ => BitVec.add_sub_cancel v 1#8)
      fun _ _ _ => rfl
  · exact (applies_rotate .rl r).roundTrip (applies_rotate .rr r) value fun _ => carry
  · exact (applies_rotate .rlc r).roundTrip (applies_rotate .rrc r) rrcValue_rlcValue drop
  · exact (applies_rotate .swap r).roundTrip (applies_rotate .swap r) swapValue_swapValue drop
  · exact applies_rla.roundTrip applies_rra value fun _ => carry
  · exact applies_rlca.roundTrip applies_rrca rrcValue_rlcValue drop

open Sys2Proof.Machine in
/-- Settles O18: the three write A's bitwise result and constant flags but for Z. -/
theorem logicOperations : Obligations.LogicOperations := by
  intro src s
  refine ⟨fun op => ?_, ?_, ?_, ?_⟩
  · cases src with
    | r8 k => exact encode_aluR8 op k
    | imm n => exact encode_aluImm op n
  · exact exec_alu_bitwise rfl (iff_true_intro rfl)
  · exact exec_alu_bitwise rfl Bool.false_eq_true.to_iff
  · exact exec_alu_bitwise rfl Bool.false_eq_true.to_iff

open Sys2Proof Sys2Proof.Machine in
/-- Settles O19: one write of the operand, then the flags of a step up or down by one. -/
theorem incrementDecrement : Obligations.IncrementDecrement := by
  intro k s
  have inc := (exec_inc k s).trans (incR8_eq k s)
  have dec := (exec_dec k s).trans (decR8_eq k s)
  exact ⟨encode_inc k, encode_dec k,
    ⟨_, inc, packFlags_of _ (isZero_add_one _) Bool.false_eq_true.to_iff decide_eq_true_iff Iff.rfl⟩,
    ⟨_, dec, packFlags_of _ (isZero_sub_one _) (iff_true_intro rfl) decide_eq_true_iff Iff.rfl⟩⟩

open Sys2Proof Sys2Proof.Machine in
/-- Settles O22: the three are constant or complemented flags over the kept ones. -/
theorem complementAndCarry : Obligations.ComplementAndCarry := by
  intro s
  have keep {b : Bool} : b = true ↔ b = true := Iff.rfl
  have set : true = true ↔ True := iff_true_intro rfl
  have clear : false = true ↔ False := Bool.false_eq_true.to_iff
  exact ⟨⟨rfl, _, rfl, packFlags_of _ keep set set keep⟩,
    ⟨rfl, _, rfl, packFlags_of _ keep clear clear set⟩,
    ⟨rfl, _, rfl, packFlags_of _ keep clear clear (by simp)⟩⟩

end

/-! SUPPORT and proofs. The statements of 42_alu16.md: ADD HL,rr, INC rr and DEC rr, and SP with a signed
offset. -/

section

namespace Sys2Proof.Machine

/-! ## The instructions by their pair field -/

theorem exec_addHl (rr : RR) (s : State) : exec (.addHl rr) s = addHl rr s := by
  cases rr <;> rfl

theorem exec_incPair (rr : RR) (s : State) : exec (.incPair rr) s = incPair rr s := by
  cases rr <;> rfl

theorem exec_decPair (rr : RR) (s : State) : exec (.decPair rr) s = decPair rr s := by
  cases rr <;> rfl

theorem encode_addHl (rr : RR) : encode (.addHl rr) = [BitVec.ofNat 8 (0x09 + 16 * rr.code)] := by
  cases rr <;> rfl

theorem encode_incPair (rr : RR) : encode (.incPair rr) = [BitVec.ofNat 8 (0x03 + 16 * rr.code)] := by
  cases rr <;> rfl

theorem encode_decPair (rr : RR) : encode (.decPair rr) = [BitVec.ofNat 8 (0x0B + 16 * rr.code)] := by
  cases rr <;> rfl

/-! ## The shapes on unbounded integers -/

theorem addHl_eq (rr : RR) (s : State) :
    let r := BitVec.ofNat 16 (s.hl.toNat + (s.readRR rr).toNat)
    addHl rr s = .next { s with
      cpu.h := hi r, cpu.l := lo r
      cpu.f := packFlags s.cpu.f s.flagZ false (halfCarry16 s.hl (s.readRR rr)) (carry16 s.hl (s.readRR rr))
      cpu.stepCost := 8 } := by
  intro r
  have sum : s.hl + s.readRR rr = r := BitVec.add_def _ _
  rw [addHl, sum]
  rfl

theorem incPair_eq (rr : RR) (s : State) :
    incPair rr s =
      .next { s.writeRR rr (BitVec.ofNat 16 ((s.readRR rr).toNat + 1)) with cpu.stepCost := 8 } := by
  rw [incPair, BitVec.add_def]
  rfl

/-- Minus one is plus 0xFFFF. -/
theorem decPair_eq (rr : RR) (s : State) :
    decPair rr s =
      .next { s.writeRR rr (BitVec.ofNat 16 ((s.readRR rr).toNat + 0xFFFF)) with cpu.stepCost := 8 } := by
  rw [decPair, BitVec.sub_eq_add_neg, BitVec.add_def]
  rfl

/-- What `spFlags` writes (42_alu16.md R233, R234): SP's low byte is SP modulo 256, and its low nibble is
SP's. -/
theorem spFlags_written (f e : Byte) (sp : Word) :
    FlagsWritten f (packFlags f false false (halfCarry (lo sp) e false) (carry (lo sp) e false)) False False
      (sp.toNat % 16 + e.toNat % 16 > 0xF) (sp.toNat % 256 + e.toNat > 0xFF) := by
  have nibble : (lo sp).toNat % 16 = sp.toNat % 16 := by rw [toNat_lo, Nat.mod_mod_of_dvd _ (by decide)]
  apply packFlags_of
  · exact Bool.false_eq_true.to_iff
  · exact Bool.false_eq_true.to_iff
  · rw [halfCarry, nibble, decide_eq_true_iff, Bool.toNat_false, Nat.add_zero]
  · rw [carry, toNat_lo, decide_eq_true_iff, Bool.toNat_false, Nat.add_zero]

end Sys2Proof.Machine

open Sys2Proof Sys2Proof.Machine in
/-- Settles O23: the wrapped sum in HL with the carries out of bits 11 and 15, then one write of the pair. -/
theorem pairArithmetic : Obligations.PairArithmetic := by
  intro rr s
  refine ⟨encode_addHl rr, encode_incPair rr, encode_decPair rr, ?_, ?_, ?_⟩
  · exact ⟨_, (exec_addHl rr s).trans (addHl_eq rr s),
      packFlags_of _ Iff.rfl Bool.false_eq_true.to_iff decide_eq_true_iff decide_eq_true_iff⟩
  · exact (exec_incPair rr s).trans (incPair_eq rr s)
  · exact (exec_decPair rr s).trans (decPair_eq rr s)

open Sys2Proof Sys2Proof.Machine in
/-- Settles O24: both forms write the one sum of `add_sext16` and the one byte of `spFlags_written`. -/
theorem stackPointerOffset : Obligations.StackPointerOffset := by
  intro e s
  have flags := spFlags_written s.cpu.f e s.cpu.sp
  rw [← add_sext16]
  exact ⟨rfl, rfl, ⟨_, rfl, flags⟩, ⟨_, rfl, flags⟩⟩

end

/-! SUPPORT and proofs. The statements of 43_bitops.md: rotates and shifts of A, of a register and of (HL), and
single bits. -/

section

namespace Sys2Proof.Machine

/-! ## Rotates and shifts on unbounded integers -/

theorem getLsbD_seven_toNat (v : Byte) : (v.getLsbD 7).toNat = v.toNat / 128 := by
  rw [BitVec.getLsbD, Nat.toNat_testBit]
  omega

theorem getLsbD_zero_toNat (v : Byte) : (v.getLsbD 0).toNat = v.toNat % 2 := by
  rw [BitVec.getLsbD, Nat.toNat_testBit, Nat.pow_zero, Nat.div_one]

theorem getLsbD_seven_iff (v : Byte) : v.getLsbD 7 = true ↔ v.toNat / 128 = 1 := by
  rw [← getLsbD_seven_toNat, Bool.toNat_eq_one]

theorem getLsbD_zero_iff (v : Byte) : v.getLsbD 0 = true ↔ v.toNat % 2 = 1 := by
  rw [← getLsbD_zero_toNat, Bool.toNat_eq_one]

/-- The doubled byte is even, so the carry's bit is free. -/
theorem toNat_rlValue (v : Byte) (c : Bool) : (rlValue v c).1.toNat = 2 * v.toNat % 256 + c.toNat := by
  have double : 2 * v.toNat % 256 = 2 ^ 1 * (v.toNat % 128) := by omega
  rw [rlValue, BitVec.toNat_or, toNat_carryByte, BitVec.toNat_shiftLeft, Nat.shiftLeft_eq_mul_pow,
    Nat.mul_comm, double, Nat.two_pow_add_eq_or_of_lt c.toNat_lt]

/-- The halved byte is below 128, so the carry's bit is free. -/
theorem toNat_rrValue (v : Byte) (c : Bool) : (rrValue v c).1.toNat = v.toNat / 2 + 128 * c.toNat := by
  have top : (carryByte c <<< 7).toNat = 2 ^ 7 * c.toNat := by cases c <;> rfl
  have half : v.toNat / 2 < 2 ^ 7 := by omega
  rw [rrValue, BitVec.toNat_or, top, BitVec.toNat_ushiftRight, Nat.shiftRight_eq_div_pow, Nat.pow_one,
    Nat.or_comm, ← Nat.two_pow_add_eq_or_of_lt half, Nat.add_comm]

/-- The two nibbles do not overlap. -/
theorem toNat_swapValue (v : Byte) (c : Bool) :
    (swapValue v c).1.toNat = 16 * (v.toNat % 16) + v.toNat / 16 := by
  have low : (v &&& 0x0F#8).toNat = v.toNat % 16 := Nat.and_two_pow_sub_one_eq_mod v.toNat 4
  have up : ((v &&& 0x0F#8) <<< 4).toNat = 2 ^ 4 * (v.toNat % 16) := by
    rw [BitVec.toNat_shiftLeft, Nat.shiftLeft_eq, low]
    omega
  have high : v.toNat / 2 ^ 4 < 2 ^ 4 := by omega
  rw [swapValue, BitVec.toNat_or, up, BitVec.toNat_ushiftRight, Nat.shiftRight_eq_div_pow,
    ← Nat.two_pow_add_eq_or_of_lt high]
  rfl

theorem slaValue_eq (v : Byte) (c : Bool) : slaValue v c = rlValue v false := by
  simp [slaValue, rlValue, carryByte]

theorem srlValue_eq (v : Byte) (c : Bool) : srlValue v c = rrValue v false := by
  simp [srlValue, rrValue, carryByte]

/-- SRA is RR with the byte's own top bit (43_bitops.md R249). -/
theorem sraValue_eq (v : Byte) (c : Bool) : sraValue v c = rrValue v (v.getLsbD 7) := by
  have top : v &&& 0x80#8 = carryByte (v.getLsbD 7) <<< 7 := by
    refine (BitVec.and_twoPow v 7).trans ?_
    cases v.getLsbD 7 <;> rfl
  rw [sraValue, rrValue, top]

/-- Six of the eight are RL or RR with their own choice of the bit that comes in. -/
theorem toNat_rotateField (o : RotOp) (v : Byte) (c : Bool) :
    (rotateField o.code v c).1.toNat = rotateResult o v.toNat c.toNat := by
  cases o with
  | rlc => exact (toNat_rlValue v _).trans (by rw [getLsbD_seven_toNat, rotateResult])
  | rrc => exact (toNat_rrValue v _).trans (by rw [getLsbD_zero_toNat, rotateResult])
  | rl => exact toNat_rlValue v c
  | rr => exact toNat_rrValue v c
  | sla => exact (congrArg (·.1.toNat) (slaValue_eq v c)).trans (toNat_rlValue v false)
  | sra =>
    refine (congrArg (·.1.toNat) (sraValue_eq v c)).trans ?_
    rw [toNat_rrValue, getLsbD_seven_toNat, rotateResult]
  | swap => exact toNat_swapValue v c
  | srl => exact (congrArg (·.1.toNat) (srlValue_eq v c)).trans (toNat_rrValue v false)

theorem rotateField_carry (o : RotOp) (v : Byte) (c : Bool) :
    (rotateField o.code v c).2 = true ↔ rotateCarry o v.toNat := by
  cases o with
  | rlc | rl | sla => exact getLsbD_seven_iff v
  | rrc | rr | sra | srl => exact getLsbD_zero_iff v
  | swap => exact Bool.false_eq_true.to_iff

section
variable (o : RotOp) (s : State)

theorem rotateField_eq_ofNat (v : Byte) :
    (rotateField o.code v s.flagC).1 = BitVec.ofNat 8 (rotateResult o v.toNat s.carryIn) := by
  rw [State.carryIn_eq, ← toNat_rotateField, BitVec.ofNat_toNat, BitVec.setWidth_eq]

theorem isZero_rotateField (v : Byte) :
    isZero (rotateField o.code v s.flagC).1 = true ↔ rotateResult o v.toNat s.carryIn = 0 := by
  rw [State.carryIn_eq, ← toNat_rotateField, isZero_iff_toNat]

theorem rotA_rotateField :
    ∃ f, rotA (rotateField o.code) s =
        .next { s with
          cpu.a := BitVec.ofNat 8 (rotateResult o s.cpu.a.toNat s.carryIn), cpu.f := f, cpu.stepCost := 4 } ∧
      FlagsWritten s.cpu.f f False False False (rotateCarry o s.cpu.a.toNat) := by
  rw [← rotateField_eq_ofNat]
  have clear : false = true ↔ False := Bool.false_eq_true.to_iff
  exact ⟨_, rfl, packFlags_of _ clear clear clear (rotateField_carry ..)⟩

end

/-! ## The CB instructions by their operand fields -/

theorem encode_rotate (o : RotOp) (k : R8) :
    encode (.rotate o k) = [0xCB#8, BitVec.ofNat 8 (8 * o.code + k.code)] := by
  rcases k with r | _
  · cases o <;> cases r <;> rfl
  · cases o <;> rfl

theorem encode_bits (b : Fin 8) (k : R8) :
    encode (.bitTest b k) = [0xCB#8, BitVec.ofNat 8 (0x40 + 8 * b.val + k.code)] ∧
    encode (.bitReset b k) = [0xCB#8, BitVec.ofNat 8 (0x80 + 8 * b.val + k.code)] ∧
    encode (.bitSet b k) = [0xCB#8, BitVec.ofNat 8 (0xC0 + 8 * b.val + k.code)] := by
  rcases k with r | _
  · fin_cases b <;> cases r <;> exact ⟨rfl, rfl, rfl⟩
  · fin_cases b <;> exact ⟨rfl, rfl, rfl⟩

theorem exec_bits (b : Fin 8) (k : R8) (s : State) :
    exec (.bitTest b k) s = bitBit b.val k s ∧ exec (.bitReset b k) s = resBit b.val k s ∧
      exec (.bitSet b k) s = setBit b.val k s := by
  rcases k with r | _
  · fin_cases b <;> cases r <;> exact ⟨rfl, rfl, rfl⟩
  · fin_cases b <;> exact ⟨rfl, rfl, rfl⟩

/-! ## One bit of a byte -/

theorem getLsbD_one_shiftLeft (b m : Fin 8) : (1#8 <<< b.val).getLsbD m.val = decide (m = b) := by
  rw [← BitVec.twoPow_eq, BitVec.getLsbD_twoPow, decide_eq_true b.isLt, Bool.true_and, decide_eq_decide,
    eq_comm, Fin.ext_iff]

theorem getLsbD_clearBit (v : Byte) (b m : Fin 8) :
    (v &&& ~~~(1#8 <<< b.val)).getLsbD m.val = if m = b then false else v.getLsbD m.val := by
  rw [BitVec.getLsbD_and, BitVec.getLsbD_not, getLsbD_one_shiftLeft]
  by_cases h : m = b <;> simp [h]

theorem getLsbD_setBit (v : Byte) (b m : Fin 8) :
    (v ||| 1#8 <<< b.val).getLsbD m.val = if m = b then true else v.getLsbD m.val := by
  rw [BitVec.getLsbD_or, getLsbD_one_shiftLeft]
  by_cases h : m = b <;> simp [h]

end Sys2Proof.Machine

open Sys2Proof.Machine in
/-- Settles O26: one write of the operand, of the value that `toNat_rotateField` gives on unbounded integers. -/
theorem rotatesAndShifts : Obligations.RotatesAndShifts := by
  intro o k s
  refine ⟨encode_rotate o k, _, ?_, packFlags_of s.cpu.f (isZero_rotateField o s _)
    Bool.false_eq_true.to_iff Bool.false_eq_true.to_iff (rotateField_carry o _ s.flagC)⟩
  rw [exec_rotate, rotR8, State.setFlags_charge_writeR8, rotateField_eq_ofNat]

open Sys2Proof.Machine in
/-- Settles O27: the mask has the one bit `b`, and one write puts the masked byte back. -/
theorem singleBits : Obligations.SingleBits := by
  intro b k s v
  obtain ⟨encodeTest, encodeReset, encodeSet⟩ := encode_bits b k
  obtain ⟨test, reset, set⟩ := exec_bits b k s
  rw [test, reset, set, bitBit, resBit, setBit, r8Cost_eq, r8Cost_eq]
  have flags := packFlags_of s.cpu.f (Bool.not_eq_true' (v.getLsbD b)).to_iff Bool.false_eq_true.to_iff
    (iff_true_intro rfl) (Iff.refl (s.flagC = true))
  exact ⟨encodeTest, encodeReset, encodeSet, ⟨_, rfl, flags⟩, ⟨_, getLsbD_clearBit v b, rfl⟩,
    ⟨_, getLsbD_setBit v b, rfl⟩⟩

open Sys2Proof.Machine in
/-- Settles O25: each of the four is the rotate of A by its `RotOp`, with Z cleared. -/
theorem accumulatorRotates : Obligations.AccumulatorRotates := by
  intro s
  refine ⟨rfl, rfl, rfl, rfl, ?_⟩
  simp only [List.forall_mem_cons, List.not_mem_nil, false_imp_iff, implies_true, and_true]
  exact ⟨rotA_rotateField .rlc s, rotA_rotateField .rrc s, rotA_rotateField .rl s, rotA_rotateField .rr s⟩

end

/-! SUPPORT and proofs. The statements of 44_control.md: jumps, calls, restarts and returns. -/

section

namespace Sys2Proof.Machine

/-! ## The instructions by their condition and their restart field -/

theorem exec_jumpIf (cc : Cond) (a : Word) (s : State) : exec (.jumpIf cc a) s = jumpIf cc a s := by
  cases cc <;> rfl

theorem exec_jumpRelativeIf (cc : Cond) (e : Byte) (s : State) :
    exec (.jumpRelativeIf cc e) s = jumpRelativeIf cc e s := by
  cases cc <;> rfl

theorem exec_callIf (cc : Cond) (a : Word) (s : State) : exec (.callIf cc a) s = callIf cc a s := by
  cases cc <;> rfl

theorem exec_retIf (cc : Cond) (s : State) : exec (.retIf cc) s = retIf cc s := by
  cases cc <;> rfl

theorem exec_restart (y : Fin 8) (s : State) :
    exec (.restart y) s = restart (BitVec.ofNat 16 (8 * y.val)) s := by
  fin_cases y <;> rfl

theorem encode_jumpIf (cc : Cond) (a : Word) :
    encode (.jumpIf cc a) = [BitVec.ofNat 8 (0xC2 + 8 * cc.code), lo a, hi a] := by
  cases cc <;> rfl

theorem encode_jumpRelativeIf (cc : Cond) (e : Byte) :
    encode (.jumpRelativeIf cc e) = [BitVec.ofNat 8 (0x20 + 8 * cc.code), e] := by
  cases cc <;> rfl

theorem encode_callIf (cc : Cond) (a : Word) :
    encode (.callIf cc a) = [BitVec.ofNat 8 (0xC4 + 8 * cc.code), lo a, hi a] := by
  cases cc <;> rfl

theorem encode_retIf (cc : Cond) : encode (.retIf cc) = [BitVec.ofNat 8 (0xC0 + 8 * cc.code)] := by
  cases cc <;> rfl

theorem encode_restart (y : Fin 8) : encode (.restart y) = [BitVec.ofNat 8 (0xC7 + 8 * y.val)] := by
  fin_cases y <;> rfl

/-! ## The shapes -/

/-- The two outcomes of a condition, under one `.next`. -/
theorem jumpIf_eq (cc : Cond) (a : Word) (s : State) :
    jumpIf cc a s =
      .next (if s.cond cc then { s with cpu.pc := a, cpu.stepCost := 16 }
        else { s with cpu.stepCost := 12 }) :=
  (apply_ite Host.Outcome.next ..).symm

theorem jumpRelativeIf_eq (cc : Cond) (e : Byte) (s : State) :
    jumpRelativeIf cc e s =
      .next (if s.cond cc then { s with cpu.pc := s.cpu.pc + sext16 e, cpu.stepCost := 12 }
        else { s with cpu.stepCost := 8 }) :=
  (apply_ite Host.Outcome.next ..).symm

/-- What CALL and RST leave: the two stores of PC, then the CPU with SP less 2 (44_control.md R276, R281). -/
theorem State.charge_setPc_push16 (s : State) (a : Word) (n : Nat) :
    ((s.push16 s.cpu.pc).setPc a).charge n =
      { s.pushed s.cpu.pc with
        cpu := { s.cpu with sp := s.cpu.sp - 2#16, pc := a, stepCost := n } } := by
  rw [State.push16_eq]
  rfl

theorem callIf_eq (cc : Cond) (a : Word) (s : State) :
    callIf cc a s =
      .next (if s.cond cc then
          { s.pushed s.cpu.pc with
            cpu := { s.cpu with sp := s.cpu.sp - 2#16, pc := a, stepCost := 24 } }
        else { s with cpu.stepCost := 12 }) := by
  rw [callIf, State.charge_setPc_push16]
  exact (apply_ite Host.Outcome.next ..).symm

/-- PC takes the word that SP pointed to before it moved (44_control.md R278). -/
theorem State.charge_returnFromCall (s : State) (n : Nat) :
    s.returnFromCall.charge n =
      { s with cpu.pc := s.popped, cpu.sp := s.cpu.sp + 2#16, cpu.stepCost := n } := by
  rw [State.returnFromCall, State.top16_eq]
  rfl

theorem retIf_eq (cc : Cond) (s : State) :
    retIf cc s =
      .next (if s.cond cc then
          { s with cpu.pc := s.popped, cpu.sp := s.cpu.sp + 2#16, cpu.stepCost := 20 }
        else { s with cpu.stepCost := 8 }) := by
  rw [retIf, State.charge_returnFromCall]
  exact (apply_ite Host.Outcome.next ..).symm

theorem State.charge_returnFromInterrupt (s : State) (n : Nat) :
    s.returnFromInterrupt.charge n =
      { s with
        cpu.pc := s.popped, cpu.sp := s.cpu.sp + 2#16, cpu.ime := true, cpu.stepCost := n } := by
  rw [State.returnFromInterrupt, State.returnFromCall, State.top16_eq]
  rfl

end Sys2Proof.Machine

open Sys2Proof Sys2Proof.Machine in
/-- Settles O29: each form writes PC and the cost alone, and JR's target is the one sum of `add_sext16`. -/
theorem jumps : Obligations.Jumps := by
  intro cc a e s taken rel
  have target : s.cpu.pc + sext16 e = rel := add_sext16 s.cpu.pc e
  rw [← target]
  exact ⟨rfl, encode_jumpIf cc a, rfl, rfl, encode_jumpRelativeIf cc e, rfl,
    (exec_jumpIf cc a s).trans (jumpIf_eq cc a s), rfl, rfl,
    (exec_jumpRelativeIf cc e s).trans (jumpRelativeIf_eq cc e s)⟩

open Sys2Proof.Machine in
/-- Settles O30: every call that is made is the one push of `State.charge_setPc_push16`. -/
theorem calls : Obligations.Calls := by
  intro cc a y s called
  refine ⟨rfl, encode_callIf cc a, encode_restart y, ?_, ?_, ?_⟩
  · exact congrArg Host.Outcome.next (s.charge_setPc_push16 a 24)
  · exact (exec_callIf cc a s).trans (callIf_eq cc a s)
  · exact (exec_restart y s).trans (congrArg Host.Outcome.next (s.charge_setPc_push16 _ 16))

open Sys2Proof.Machine in
/-- Settles O31: the three return through the one pop, and RETI alone writes IME. -/
theorem returns : Obligations.Returns := by
  intro cc s
  refine ⟨rfl, rfl, encode_retIf cc, ?_, ?_, ?_⟩
  · exact congrArg Host.Outcome.next (s.charge_returnFromCall 16)
  · exact (exec_retIf cc s).trans (retIf_eq cc s)
  · exact congrArg Host.Outcome.next (s.charge_returnFromInterrupt 16)

end

/-! SUPPORT and proofs. The statements of 45_system.md: CPU control, PREFIX CB and the unused opcodes. -/

section

namespace Sys2Proof.Machine

/-! ## HALT and STOP -/

/-- The two outcomes of HALT, under one `.next`. -/
theorem haltCpu_eq (s : State) :
    haltCpu s =
      .next (if s.cpu.ime = false ∧ s.pending ≠ 0#5 then { s with cpu.haltBug := true, cpu.stepCost := 4 }
        else { s with cpu.halted := true, cpu.stepCost := 4 }) := by
  unfold haltCpu
  simp only [Bool.and_eq_true, Bool.not_eq_true', decide_eq_true_eq]
  exact (apply_ite Host.Outcome.next ..).symm

/-- The counter at 0 makes the signal low, so the edge falls just when the signal was high. -/
theorem Timer.resetCounter_eq (t : Timer) :
    t.resetCounter =
      if t.signal then ({ t with tcount := 0#16 } : Timer).increment else { t with tcount := 0#16 } := by
  have low : ({ t with tcount := 0#16 } : Timer).signal = false := by
    rw [Timer.signal, BitVec.getLsbD_zero, Bool.and_false]
  rw [Timer.resetCounter, Timer.edge, low, Bool.not_false, Bool.and_true]

/-! ## The CB table -/

/-- Each square of the CB map (30_encoding.md R141) has the meaning that the fields of its byte select. -/
theorem exec_decodeCb (op2 : Byte) (s : State) : exec (decodeCb op2) s = cbTable op2 s := by
  obtain ⟨n, hn, rfl⟩ : ∃ n < 256, op2 = BitVec.ofNat 8 n := ⟨op2.toNat, op2.isLt, by simp⟩
  interval_cases n <;> rfl

/-- `t` has the CPU of `s`, but for the byte registers and a cost that is a CB row's. -/
def State.SameControl (s t : State) : Prop :=
  ∃ a f b c d e h l, ∃ n ∈ [8, 12, 16],
    t.cpu = { s.cpu with a := a, f := f, b := b, c := c, d := d, e := e, h := h, l := l, stepCost := n }

theorem State.writeR8_cpu (s : State) (k : R8) (v : Byte) :
    ∃ a b c d e h l, (s.writeR8 k v).cpu =
      { s.cpu with a := a, b := b, c := c, d := d, e := e, h := h, l := l } := by
  cases k with
  | reg r =>
    obtain ⟨a, b, c, d, e, h, l, written⟩ := s.setReg8_frame r v
    exact ⟨a, b, c, d, e, h, l, congrArg State.cpu written⟩
  | atHL => exact ⟨_, _, _, _, _, _, _, s.memWrite_cpu s.hl v⟩

/-- After the write of its operand, a CB instruction writes F and its cost. -/
theorem State.sameControl_writeR8 {s t : State} {k : R8} {v f : Byte} {n : Nat} (hn : n ∈ [8, 12, 16])
    (ht : t.cpu = { (s.writeR8 k v).cpu with f := f, stepCost := n }) : s.SameControl t := by
  obtain ⟨a, b, c, d, e, h, l, written⟩ := s.writeR8_cpu k v
  exact ⟨a, f, b, c, d, e, h, l, n, hn, ht.trans (by rw [written])⟩

theorem r8Cost_mem (k : R8) {mem : Nat} (h : mem ∈ [12, 16]) : r8Cost k 8 mem ∈ [8, 12, 16] := by
  cases k with
  | reg r => exact List.mem_cons_self
  | atHL => exact List.mem_cons_of_mem _ h

theorem cbTable_sameControl (op2 : Byte) (s : State) : Answers s.SameControl (cbTable op2 s) := by
  have write (k : R8) : r8Cost k 8 16 ∈ [8, 12, 16] := r8Cost_mem k (by decide)
  have test (k : R8) : r8Cost k 8 12 ∈ [8, 12, 16] := r8Cost_mem k (by decide)
  unfold cbTable
  generalize op2.toNat / 64 = x
  match x with
  | 0 => exact ⟨_, rfl, State.sameControl_writeR8 (write _) rfl⟩
  | 1 => exact ⟨_, rfl, _, _, _, _, _, _, _, _, _, test _, rfl⟩
  | 2 => exact ⟨_, rfl, State.sameControl_writeR8 (write _) rfl⟩
  | n + 3 => exact ⟨_, rfl, State.sameControl_writeR8 (write _) rfl⟩

/-! ## The fault latch -/

theorem State.memWrite_cpu_fault (s : State) (a : Word) (v : Byte) :
    (s.memWrite a v).cpu.fault = s.cpu.fault := congrArg Cpu.fault (s.memWrite_cpu a v)

theorem State.writeR8_cpu_fault (s : State) (k : R8) (v : Byte) :
    (s.writeR8 k v).cpu.fault = s.cpu.fault := by
  cases k <;> simp [State.writeR8]

/-- The instruction of an unused opcode: one byte long, and its meaning is R300's one entry. -/
theorem illegalForms_spec {p : Byte × Instr} (hp : p ∈ illegalForms) :
    encode p.2 = [p.1] ∧ instrLength p.1 = 1 ∧ decodeBytes p.1 0 0 = p.2 ∧
      ∀ s, exec p.2 s = .next (s.raiseIllegal p.1) := by
  fin_cases hp <;> exact ⟨rfl, rfl, rfl, fun _ => rfl⟩

/-- The meaning keeps the fault latch. -/
abbrev KeepsFault (s : State) (r : Result) : Prop := Answers (fun t => t.cpu.fault = s.cpu.fault) r

section
variable {s : State}

theorem rotR8_fault {op : Rotate} {k : R8} : KeepsFault s (rotR8 op k s) :=
  ⟨_, rfl, s.writeR8_cpu_fault k _⟩

theorem cbTable_fault {op2 : Byte} : KeepsFault s (cbTable op2 s) := by
  obtain ⟨t, next, a, f, b, c, d, e, h, l, n, -, cpu⟩ := cbTable_sameControl op2 s
  exact ⟨t, next, (congrArg Cpu.fault cpu).trans rfl⟩

theorem storeSp_fault {a : Word} : KeepsFault s (storeSp a s) := ⟨_, rfl, by simp⟩

theorem pushPair_fault {rr : StackRR} : KeepsFault s (pushPair rr s) := ⟨_, rfl, by simp⟩

theorem call_fault {a : Word} : KeepsFault s (call a s) := ⟨_, rfl, by simp⟩

theorem restart_fault {a : Word} : KeepsFault s (restart a s) := ⟨_, rfl, by simp⟩

theorem ret_fault : KeepsFault s (ret s) := ⟨_, congrArg Host.Outcome.next (s.charge_returnFromCall 16), rfl⟩

theorem reti_fault : KeepsFault s (reti s) :=
  ⟨_, congrArg Host.Outcome.next (s.charge_returnFromInterrupt 16), rfl⟩

theorem callIf_fault {cc : Cond} {a : Word} : KeepsFault s (callIf cc a s) :=
  ⟨_, callIf_eq cc a s, by split <;> rfl⟩

theorem retIf_fault {cc : Cond} : KeepsFault s (retIf cc s) :=
  ⟨_, retIf_eq cc s, by split <;> rfl⟩

theorem jumpIf_fault {cc : Cond} {a : Word} : KeepsFault s (jumpIf cc a s) :=
  ⟨_, jumpIf_eq cc a s, by split <;> rfl⟩

theorem jumpRelativeIf_fault {cc : Cond} {e : Byte} : KeepsFault s (jumpRelativeIf cc e s) :=
  ⟨_, jumpRelativeIf_eq cc e s, by split <;> rfl⟩

theorem haltCpu_fault : KeepsFault s (haltCpu s) :=
  ⟨_, haltCpu_eq s, by split <;> rfl⟩

/-- No instruction but an unused opcode's writes the fault latch. -/
theorem exec_fault {i : Instr} (hi : i ∉ illegalForms.map Prod.snd) : KeepsFault s (exec i s) := by
  cases i with
  | illegal_D3 | illegal_DB | illegal_DD | illegal_E3 | illegal_E4 | illegal_EB | illegal_EC | illegal_ED
  | illegal_F4 | illegal_FC | illegal_FD => exact absurd (by decide) hi
  | ld_atBC_A | ld_atDE_A | ld_atHLi_A | ld_atHLd_A | ldh_ata8_A _ | ld_atC_A | ld_ata16_A _ | ld_atHL_d8 _
  | ld_atHL_B | ld_atHL_C | ld_atHL_D | ld_atHL_E | ld_atHL_H | ld_atHL_L | ld_atHL_A =>
    exact ⟨_, rfl, s.memWrite_cpu_fault _ _⟩
  | rlc_atHL | rrc_atHL | rl_atHL | rr_atHL | sla_atHL | sra_atHL | swap_atHL | srl_atHL => exact rotR8_fault
  | inc_atHL | dec_atHL
  | res_0_atHL | res_1_atHL | res_2_atHL | res_3_atHL | res_4_atHL | res_5_atHL | res_6_atHL | res_7_atHL
  | set_0_atHL | set_1_atHL | set_2_atHL | set_3_atHL | set_4_atHL | set_5_atHL | set_6_atHL | set_7_atHL =>
    exact ⟨_, rfl, s.writeR8_cpu_fault .atHL _⟩
  | ld_ata16_SP _ => exact storeSp_fault
  | push_BC | push_DE | push_HL | push_AF => exact pushPair_fault
  | call_a16 _ => exact call_fault
  | rst_00H | rst_08H | rst_10H | rst_18H | rst_20H | rst_28H | rst_30H | rst_38H => exact restart_fault
  | prefix_CB _ => exact cbTable_fault
  | call_NZ_a16 _ | call_Z_a16 _ | call_NC_a16 _ | call_C_a16 _ => exact callIf_fault
  | ret_NZ | ret_Z | ret_NC | ret_C => exact retIf_fault
  | jp_NZ_a16 _ | jp_Z_a16 _ | jp_NC_a16 _ | jp_C_a16 _ => exact jumpIf_fault
  | jr_NZ_e8 _ | jr_Z_e8 _ | jr_NC_e8 _ | jr_C_e8 _ => exact jumpRelativeIf_fault
  | halt => exact haltCpu_fault
  | ret => exact ret_fault
  | reti => exact reti_fault
  | _ => exact ⟨_, rfl, rfl⟩

end

/-! ## What a step can answer -/

section
variable {s : State}

/-- The fetch delivers the map's square of the byte at PC, keeps the fault latch and latches PC
(30_encoding.md R138). -/
theorem State.fetchInstr_spec (s : State) :
    (∃ b1 b2, s.fetchInstr.1 = decodeBytes (s.memRead s.cpu.pc) b1 b2) ∧
      s.fetchInstr.2.cpu.fault = s.cpu.fault ∧ s.fetchInstr.2.cpu.opAddr = s.cpu.pc := by
  cases h : s.cpu.haltBug with
  | false =>
    rw [State.fetchInstr_eq h]
    exact ⟨⟨_, _, rfl⟩, rfl, rfl⟩
  | true =>
    obtain ⟨one, two, three⟩ := State.fetchInstr_haltBug h
    obtain hn | hn | hn := instrLength_cases (s.memRead s.cpu.pc)
    · rw [one hn]
      exact ⟨⟨_, _, rfl⟩, rfl, rfl⟩
    · rw [two hn]
      exact ⟨⟨_, _, rfl⟩, rfl, rfl⟩
    · rw [three hn]
      exact ⟨⟨_, _, rfl⟩, rfl, rfl⟩

/-- A square of the primary map that is an unused opcode's is that opcode's own. -/
theorem opcode_of_illegal {p : Byte × Instr} (hp : p ∈ illegalForms) {b0 b1 b2 : Byte}
    (h : decodeBytes b0 b1 b2 = p.2) : b0 = p.1 := by
  obtain ⟨-, spelled⟩ := (decodeBytes_ofFormat b0).spelled b1 b2
  rw [h, (illegalForms_spec hp).1] at spelled
  obtain hn | hn | hn := instrLength_cases b0 <;> rw [hn] at spelled <;> cases spelled
  rfl

/-- The execution of an unused opcode: the fault recorded in the state that the fetch left. -/
theorem State.runInstr_illegal {p : Byte × Instr} (hp : p ∈ illegalForms) {t : State}
    (h : s.fetchInstr = (p.2, t)) :
    s.runInstr = (t.raiseIllegal p.1, .fault (.illegalOpcode t.cpu.opAddr p.1)) := by
  obtain ⟨-, -, -, meaning⟩ := illegalForms_spec hp
  rw [State.runInstr, h, meaning]
  rfl

/-- The answers of a CPU step that begins at PC with no fault recorded: it goes on, or it fetched an unused
opcode. -/
inductive State.Answer (s : State) : StepResult → Prop where
  | goesOn (n : Nat) : s.Answer (.ok n)
  | illegal {p : Byte × Instr} (hp : p ∈ illegalForms) (fetched : s.memRead s.cpu.pc = p.1) :
      s.Answer (.fault (.illegalOpcode s.cpu.pc p.1))

/-- Of the CPU, an answer depends on PC only. -/
theorem State.Answer.ofCpu {c : Cpu} {r : StepResult} (h : ({ s with cpu := c } : State).Answer r)
    (hc : c.pc = s.cpu.pc) : s.Answer r := by
  cases h with
  | goesOn n => exact .goesOn n
  | illegal hp fetched =>
    rw [State.memRead_withCpu] at fetched
    dsimp only at fetched ⊢
    rw [hc] at fetched ⊢
    exact .illegal hp fetched

theorem State.runInstr_answer (h : s.cpu.fault = none) : s.Answer s.runInstr.2 := by
  obtain ⟨⟨b1, b2, square⟩, fault, opAddr⟩ := s.fetchInstr_spec
  by_cases hi : s.fetchInstr.1 ∈ illegalForms.map Prod.snd
  · obtain ⟨p, hp, unused⟩ := List.mem_map.1 hi
    rw [State.runInstr_illegal hp (Prod.ext unused.symm rfl), opAddr]
    exact .illegal hp (opcode_of_illegal hp (square.symm.trans unused.symm))
  · obtain ⟨t, next, kept⟩ := exec_fault (s := s.fetchInstr.2) hi
    rw [State.runInstr, next]
    dsimp only
    rw [kept, fault, h]
    exact .goesOn _

theorem State.serviceOrRun_answer (h : s.cpu.fault = none) : s.Answer s.serviceOrRun.2 := by
  unfold State.serviceOrRun
  split
  · exact .goesOn 20
  · exact State.runInstr_answer h

theorem State.haltedOrAwake_answer (h : s.cpu.fault = none) : s.Answer s.haltedOrAwake.2 := by
  unfold State.haltedOrAwake
  split
  · exact .goesOn 4
  · exact .ofCpu (State.serviceOrRun_answer h) rfl

theorem State.cpuStep_answer (h : s.cpu.fault = none) : s.Answer s.cpuStep.2 := by
  unfold State.cpuStep
  rw [h]
  dsimp only
  split
  · exact .goesOn 4
  · exact .ofCpu (State.haltedOrAwake_answer h) rfl

/-- With a fault recorded, the CPU step reports it and changes nothing (45_system.md R300). -/
theorem State.cpuStep_faulted {f : Fault} (h : s.cpu.fault = some f) : s.cpuStep = (s, .fault f) := by
  rw [State.cpuStep, h]

/-- A CPU step that faults is the whole machine step: the peripherals do not advance (60_exceptions.md R313). -/
theorem step_of_fault {t : State} {f : Fault} (h : s.cpuStep = (t, .fault f)) :
    s.machineStep = (t, .fault f) ∧ step s = .fault f := by
  have whole : s.machineStep = (t, .fault f) := by rw [State.machineStep, h]
  exact ⟨whole, by rw [step, whole]; rfl⟩

theorem State.Runs.step_illegal {p : Byte × Instr} (hp : p ∈ illegalForms) {t : State} (hs : s.Runs)
    (h : s.fetchInstr = (p.2, t)) :
    s.machineStep = (t.raiseIllegal p.1, .fault (.illegalOpcode t.cpu.opAddr p.1)) ∧
      step s = .fault (.illegalOpcode t.cpu.opAddr p.1) :=
  step_of_fault (hs.cpuStep_eq.trans (State.runInstr_illegal hp h))

/-- The unused opcodes' fetch, which is of one byte (30_encoding.md R142). -/
theorem State.fetchInstr_illegal {p : Byte × Instr} (hp : p ∈ illegalForms) (hb : s.memRead s.cpu.pc = p.1) :
    (s.cpu.haltBug = false → s.fetchInstr = (p.2, s.fetched 1)) ∧
    (s.cpu.haltBug = true →
      s.fetchInstr = (p.2, { s with cpu.haltBug := false, cpu.opAddr := s.cpu.pc })) := by
  obtain ⟨-, length, square, -⟩ := illegalForms_spec hp
  refine ⟨fun h => ?_, fun h => ?_⟩
  · rw [State.fetchInstr_eq h, hb, length, ← square]
    rfl
  · obtain ⟨one, -, -⟩ := State.fetchInstr_haltBug h
    rw [one (by rw [hb, length]), hb, square]

theorem step_answer (h : s.cpu.fault = none) :
    ∃ r, s.Answer r ∧ step s = r.outcome s.machineStep.1 := by
  refine ⟨s.machineStep.2, ?_, rfl⟩
  have answer := State.cpuStep_answer h
  unfold State.machineStep
  split
  · exact .goesOn _
  · exact answer

end

end Sys2Proof.Machine

open Sys2Proof.Machine in
/-- Settles O33: both sides are the CB table's meaning, which writes byte registers, memory and the cost. -/
theorem prefixCb : Obligations.PrefixCb := by
  intro op2 s
  obtain ⟨t, next, a, f, b, c, d, e, h, l, n, cost, cpu⟩ := cbTable_sameControl op2 s
  refine ⟨rfl, (exec_decodeCb op2 s).symm, t, next, ?_⟩
  rw [cpu]
  exact ⟨rfl, rfl, rfl, rfl, rfl, rfl, rfl, rfl, cost⟩

open Sys2Proof Sys2Proof.Machine in
/-- Settles O34: an unused opcode is one byte and its meaning the one entry of R300; every other instruction
keeps the fault latch, so no other step faults. -/
theorem illegalOpcodes : Obligations.IllegalOpcodes := by
  refine ⟨fun p hp s => ?unused, fun s f h => step_of_fault (State.cpuStep_faulted h),
    fun s f h unfaulted => ?faults, fun s r h => ?refuses⟩
  case unused =>
    obtain ⟨spelled, -, -, meaning⟩ := illegalForms_spec hp
    exact ⟨spelled, meaning s, fun runs bug hb => runs.step_illegal hp ((State.fetchInstr_illegal hp hb).1 bug),
      fun runs bug hb => runs.step_illegal hp ((State.fetchInstr_illegal hp hb).2 bug)⟩
  case faults =>
    obtain ⟨_, ⟨n⟩ | ⟨hp, fetched⟩, outcome⟩ := step_answer unfaulted <;> rw [h] at outcome <;> cases outcome
    exact ⟨_, hp, rfl, fetched⟩
  case refuses =>
    cases hf : s.cpu.fault with
    | some f =>
      rw [(step_of_fault (State.cpuStep_faulted hf)).2] at h
      cases h
    | none =>
      obtain ⟨_, ⟨n⟩ | ⟨hp, fetched⟩, outcome⟩ := step_answer hf <;> rw [h] at outcome <;> cases outcome

open Sys2Proof.Machine in
/-- Settles O32: each of the five writes its latches and the cost; STOP's counter reset is
`Timer.resetCounter_eq`. -/
theorem cpuControl : Obligations.CpuControl := by
  intro n s
  refine ⟨rfl, rfl, rfl, rfl, rfl, rfl, haltCpu_eq s, ?_, rfl, rfl⟩
  rw [← Timer.resetCounter_eq]
  rfl

end

/-! SUPPORT and proofs. The statements of 60_exceptions.md on the CPU step: the instruction at PC, the idle
states, the delayed enable of EI and the interrupt service. -/

section

namespace Sys2Proof.Machine

/-! ## The instruction at PC -/

/-- Three bytes at PC that decode are fetched as that instruction, and PC moves past as many of them as it is
encoded in (30_encoding.md R131, R138). -/
theorem State.fetchInstr_of_decode {s : State} {i : Instr} {rest : List Byte} (bug : s.cpu.haltBug = false)
    (h : decode [s.memRead s.cpu.pc, s.memRead (s.cpu.pc + 1#16), s.memRead (s.cpu.pc + 2#16)] =
      .ok (i, rest)) :
    s.fetchInstr = (i, s.fetched (encode i).length) := by
  obtain ⟨-, spelled⟩ := encodeAfterDecode.1 _ _ _ h
  have length := congrArg List.length spelled
  rw [List.length_append] at length
  rw [State.fetchInstr_eq bug]
  obtain hn | hn | hn := instrLength_cases (s.memRead s.cpu.pc)
  · rw [decode_one _ hn] at h
    cases h
    rw [hn, Nat.add_right_cancel (m := 2) (k := 1) length]
    rfl
  · rw [decode_two _ _ hn] at h
    cases h
    rw [hn, Nat.add_right_cancel (m := 1) (k := 2) length]
    rfl
  · rw [decode_three _ _ _ hn] at h
    cases h
    rw [hn, Nat.add_right_cancel (m := 0) (k := 3) length]
    rfl

/-- Of the CPU, the fetched instruction depends on PC and the HALT bug only. -/
theorem State.fetchInstr_fst_congr {s : State} {c : Cpu} (pc : c.pc = s.cpu.pc)
    (bug : c.haltBug = s.cpu.haltBug) : ({ s with cpu := c } : State).fetchInstr.1 = s.fetchInstr.1 := by
  cases hb : s.cpu.haltBug with
  | false =>
    rw [State.fetchInstr_eq hb, State.fetchInstr_eq (bug.trans hb)]
    simp only [State.memRead_withCpu, pc]
  | true =>
    obtain ⟨one, two, three⟩ := State.fetchInstr_haltBug hb
    obtain ⟨one', two', three'⟩ := State.fetchInstr_haltBug (s := { s with cpu := c }) (bug.trans hb)
    simp only [State.memRead_withCpu, pc] at one' two' three'
    obtain hn | hn | hn := instrLength_cases (s.memRead s.cpu.pc)
    · rw [one hn, one' hn]
    · rw [two hn, two' hn]
    · rw [three hn, three' hn]

/-- The fetch latches its address and may move PC and clear the HALT bug; it changes nothing else. -/
theorem State.fetchInstr_snd (s : State) :
    ∃ pc bug, s.fetchInstr.2 = { s with cpu.opAddr := s.cpu.pc, cpu.pc := pc, cpu.haltBug := bug } := by
  cases hb : s.cpu.haltBug with
  | false =>
    rw [State.fetchInstr_eq hb]
    exact ⟨_, _, rfl⟩
  | true =>
    obtain ⟨one, two, three⟩ := State.fetchInstr_haltBug hb
    obtain hn | hn | hn := instrLength_cases (s.memRead s.cpu.pc)
    · rw [one hn]
      exact ⟨_, _, rfl⟩
    · rw [two hn]
      exact ⟨_, _, rfl⟩
    · rw [three hn]
      exact ⟨_, _, rfl⟩

theorem State.fetchInstr_ime (s : State) : s.fetchInstr.2.cpu.ime = s.cpu.ime := by
  obtain ⟨pc, bug, fetched⟩ := s.fetchInstr_snd
  rw [fetched]

section
variable {s t : State}

/-- An instruction that records no fault is followed by the delayed enable. -/
theorem State.runInstr_next (h : exec s.fetchInstr.1 s.fetchInstr.2 = .next t) (fault : t.cpu.fault = none) :
    s.runInstr = (t.applyEi s.cpu.eiPending, .ok t.cpu.stepCost) := by
  simp only [State.runInstr, h, fault]

/-- An instruction that records a fault ends the step. -/
theorem State.runInstr_fault {f : Fault} (h : exec s.fetchInstr.1 s.fetchInstr.2 = .next t)
    (fault : t.cpu.fault = some f) : s.runInstr = (t, .fault f) := by
  simp only [State.runInstr, h, fault]

/-- Where the enable is delayed to: the latch was set before the instruction and still is. -/
theorem State.applyEi_set (h : s.cpu.eiPending = true) :
    s.applyEi true = { s with cpu.ime := true, cpu.eiPending := false } := by
  rw [State.applyEi, h]
  rfl

theorem State.applyEi_unset {b : Bool} (h : b = false ∨ s.cpu.eiPending = false) : s.applyEi b = s := by
  obtain h | h := h <;> simp [State.applyEi, h]

/-- With IME set already, the delayed enable clears the latch and does no more. -/
theorem State.applyEi_enabled (h : s.cpu.ime = true) (b : Bool) :
    s.applyEi b = s.withEi (!b && s.cpu.eiPending) := by
  cases b with
  | false => exact State.applyEi_unset (.inl rfl)
  | true =>
    cases he : s.cpu.eiPending with
    | false => rw [State.applyEi_unset (.inr he), Bool.and_false, ← he, State.withEi_self]
    | true =>
      rw [State.applyEi_set he, State.withEi, Bool.not_true, Bool.false_and]
      simp only [h]

/-! ## The ways of a CPU step -/

/-- While STOP holds, a step is an idle slot (60_exceptions.md R311). -/
theorem State.cpuStep_held (fault : s.cpu.fault = none) (stopped : s.cpu.stopped = true)
    (lines : s.joypad.lines = 0xF#4) : s.cpuStep = s.idle := by
  simp [State.cpuStep, fault, stopped, lines]

/-- Where STOP does not hold, the step goes on with the latch cleared (60_exceptions.md R311). -/
theorem State.cpuStep_released (fault : s.cpu.fault = none)
    (released : s.cpu.stopped = true → s.joypad.lines ≠ 0xF#4) :
    s.cpuStep = State.haltedOrAwake { s with cpu.stopped := false } := by
  have held : ¬(s.cpu.stopped && decide (s.joypad.lines = 0xF#4)) = true := by simpa using released
  rw [State.cpuStep, fault]
  exact if_neg held

theorem State.haltedOrAwake_idle (halted : s.cpu.halted = true) (pending : s.pending = 0#5) :
    s.haltedOrAwake = s.idle := by
  simp [State.haltedOrAwake, halted, pending]

/-- Where HALT does not hold, the step goes on with the latch cleared (60_exceptions.md R311). -/
theorem State.haltedOrAwake_awake (awake : s.cpu.halted = true → s.pending ≠ 0#5) :
    s.haltedOrAwake = State.serviceOrRun { s with cpu.halted := false } := by
  have halted : ¬(s.cpu.halted && decide (s.pending = 0#5)) = true := by simpa using awake
  exact if_neg halted

theorem State.serviceOrRun_service (ime : s.cpu.ime = true) (pending : s.pending ≠ 0#5) :
    s.serviceOrRun = (s.serviceInterrupt, .ok 20) := by
  simp [State.serviceOrRun, ime, pending]

theorem State.serviceOrRun_run (h : s.cpu.ime = false ∨ s.pending = 0#5) : s.serviceOrRun = s.runInstr := by
  obtain h | h := h <;> simp [State.serviceOrRun, h]

/-- A latch that is clear already. -/
theorem State.clear_stopped (h : s.cpu.stopped = false) : ({ s with cpu.stopped := false } : State) = s := by
  rw [← h]

theorem State.clear_halted (h : s.cpu.halted = false) : ({ s with cpu.halted := false } : State) = s := by
  rw [← h]

/-! ## IME -/

/-- With IME clear and the EI latch too, only RETI sets IME in the execution of an instruction. -/
theorem State.runInstr_ime (ime : s.cpu.ime = false) (latch : s.cpu.eiPending = false)
    (reti : s.fetchInstr.1 ≠ .reti) : s.runInstr.1.cpu.ime = false := by
  obtain ⟨t, next⟩ := exec_next s.fetchInstr.1 s.fetchInstr.2
  have clear : t.cpu.ime = false := by
    by_cases di : s.fetchInstr.1 = .di
    · rw [di] at next
      cases next
      rfl
    · have kept := exec_ime s.fetchInstr.2 di reti
      rw [next] at kept
      exact (Option.some.inj kept).trans (s.fetchInstr_ime.trans ime)
  cases fault : t.cpu.fault with
  | some f => rw [State.runInstr_fault next fault, clear]
  | none => rw [State.runInstr_next next fault, State.applyEi_unset (.inl latch), clear]

/-- A CPU step that sets IME applies a delayed enable or executes RETI (60_exceptions.md R312, R326). -/
theorem State.cpuStep_sets_ime (ime : s.cpu.ime = false) (set : s.cpuStep.1.cpu.ime = true) :
    s.cpu.eiPending = true ∨ s.fetchInstr.1 = .reti := by
  by_contra neither
  obtain ⟨latch, reti⟩ := not_or.1 neither
  rw [Bool.not_eq_true] at latch
  suffices clear : s.cpuStep.1.cpu.ime = false from Bool.false_ne_true (clear.symm.trans set)
  unfold State.cpuStep
  split
  · exact ime
  split
  · exact ime
  unfold State.haltedOrAwake
  split
  · exact ime
  rw [State.serviceOrRun_run (s := { s with cpu.stopped := false, cpu.halted := false }) (.inl ime)]
  have fetched := State.fetchInstr_fst_congr (s := s)
    (c := { s.cpu with stopped := false, halted := false }) rfl rfl
  exact State.runInstr_ime ime latch fun h => reti (fetched.symm.trans h)

/-! ## With IME set, no step tells whether the EI latch is set -/

/-- `q` answers what `p` does, and its state differs in the EI latch at most: not even in it once IME is
clear. -/
def SameButLatch (p q : State × StepResult) : Prop :=
  ∃ c, q = (p.1.withEi c, p.2) ∧ (p.1.cpu.ime = true ∨ c = p.1.cpu.eiPending)

/-- With IME set, an instruction leaves the same state whatever the latch held, but for the latch; and it
leaves IME set, or (DI) both clear. -/
theorem exec_latch (i : Instr) (ime : s.cpu.ime = true) (b : Bool) :
    ∃ t c, exec i s = .next t ∧ exec i (s.withEi b) = .next (t.withEi c) ∧
      (t.cpu.ime = true ∨ (t.cpu.eiPending = false ∧ c = false)) := by
  by_cases ei : i = .ei
  · subst ei
    exact ⟨_, true, rfl, rfl, .inl ime⟩
  by_cases di : i = .di
  · subst di
    exact ⟨_, false, rfl, rfl, .inr ⟨rfl, rfl⟩⟩
  obtain ⟨t, next⟩ := exec_next i s
  refine ⟨t, b, next, by rw [exec_withEi s b ei di, next]; rfl, .inl ?_⟩
  by_cases reti : i = .reti
  · subst reti
    cases next
    rfl
  · have kept := exec_ime s di reti
    rw [next] at kept
    exact (Option.some.inj kept).trans ime

theorem State.runInstr_latch (ime : s.cpu.ime = true) (b : Bool) :
    SameButLatch s.runInstr (s.withEi b).runInstr := by
  obtain ⟨t, c, next, next', latch⟩ := exec_latch s.fetchInstr.1 (s.fetchInstr_ime.trans ime) b
  have fetched := s.withEi_fetchInstr b
  replace next' : exec (s.withEi b).fetchInstr.1 (s.withEi b).fetchInstr.2 = .next (t.withEi c) := by
    rw [fetched, next']
  cases fault : t.cpu.fault with
  | some f =>
    rw [State.runInstr_fault next fault, State.runInstr_fault next' fault]
    exact ⟨c, rfl, latch.imp_right fun h => h.2.trans h.1.symm⟩
  | none =>
    rw [State.runInstr_next next fault, State.runInstr_next next' fault]
    obtain set | ⟨clear, rfl⟩ := latch
    · rw [State.applyEi_enabled set, State.applyEi_enabled (s := t.withEi c) set]
      exact ⟨_, rfl, .inl set⟩
    · rw [State.applyEi_unset (.inr clear), State.applyEi_unset (s := t.withEi false) (.inr rfl)]
      exact ⟨false, rfl, .inr clear.symm⟩

theorem State.serviceOrRun_latch (ime : s.cpu.ime = true) (b : Bool) :
    SameButLatch s.serviceOrRun (s.withEi b).serviceOrRun := by
  by_cases pending : s.pending = 0#5
  · rw [State.serviceOrRun_run (.inr pending), State.serviceOrRun_run (s := s.withEi b) (.inr pending)]
    exact State.runInstr_latch ime b
  · rw [State.serviceOrRun_service ime pending, State.serviceOrRun_service (s := s.withEi b) ime pending]
    exact ⟨s.serviceInterrupt.cpu.eiPending, rfl, .inr rfl⟩

theorem State.haltedOrAwake_latch (ime : s.cpu.ime = true) (b : Bool) :
    SameButLatch s.haltedOrAwake (s.withEi b).haltedOrAwake := by
  by_cases awake : s.cpu.halted = true → s.pending ≠ 0#5
  · rw [State.haltedOrAwake_awake awake, State.haltedOrAwake_awake (s := s.withEi b) awake]
    exact State.serviceOrRun_latch (s := { s with cpu.halted := false }) ime b
  · obtain ⟨halted, pending⟩ := Classical.not_imp.1 awake
    rw [State.haltedOrAwake_idle halted (not_not.1 pending),
      State.haltedOrAwake_idle (s := s.withEi b) halted (not_not.1 pending)]
    exact ⟨b, rfl, .inl ime⟩

/-- EI executed with IME set changes nothing observable (45_system.md R295; log entry 16). -/
theorem State.cpuStep_latch (ime : s.cpu.ime = true) (b : Bool) :
    SameButLatch s.cpuStep (s.withEi b).cpuStep := by
  cases fault : s.cpu.fault with
  | some f =>
    rw [State.cpuStep_faulted fault, State.cpuStep_faulted (s := s.withEi b) fault]
    exact ⟨b, rfl, .inl ime⟩
  | none =>
    by_cases released : s.cpu.stopped = true → s.joypad.lines ≠ 0xF#4
    · rw [State.cpuStep_released fault released, State.cpuStep_released (s := s.withEi b) fault released]
      exact State.haltedOrAwake_latch (s := { s with cpu.stopped := false }) ime b
    · obtain ⟨stopped, lines⟩ := Classical.not_imp.1 released
      rw [State.cpuStep_held fault stopped (not_not.1 lines),
        State.cpuStep_held (s := s.withEi b) fault stopped (not_not.1 lines)]
      exact ⟨b, rfl, .inl ime⟩

theorem step_latch (ime : s.cpu.ime = true) (b : Bool) :
    (∀ t, step s = .next t → ∃ c, step (s.withEi b) = .next (t.withEi c) ∧
      (t.cpu.ime = true ∨ c = t.cpu.eiPending)) ∧
    ∀ f, step s = .fault f → step (s.withEi b) = .fault f := by
  obtain ⟨c, same, latch⟩ := State.cpuStep_latch ime b
  rcases hr : s.cpuStep with ⟨u, r⟩
  rw [hr] at same latch
  cases r with
  | ok n =>
    rw [step_of_cpuStep hr, step_of_cpuStep same]
    refine ⟨fun t ht => ?_, fun _ h => nomatch h⟩
    cases ht
    refine ⟨c, by rw [State.advance_withEi], ?_⟩
    rwa [(State.advance_other n u).1]
  | fault f =>
    rw [(step_of_fault hr).2, (step_of_fault same).2]
    exact ⟨fun _ h => (nomatch h), fun _ h => h⟩
  | refused e =>
    have out : step s = .refused e := by rw [step, State.machineStep, hr]; rfl
    rw [out]
    exact ⟨fun _ h => (nomatch h), fun _ h => nomatch h⟩

end

/-! ## The service of an interrupt -/

/-- The line that is serviced is pending, and no lower one is (60_exceptions.md R321). -/
theorem lowestLine_spec {p : BitVec 5} (h : p ≠ 0#5) :
    lowestLine p < 5 ∧ p.getLsbD (lowestLine p) = true ∧ ∀ m, m < lowestLine p → p.getLsbD m = false := by
  revert p
  decide

/-- Of the CPU, the stores of a push depend on SP only, and they leave the CPU as it is. -/
theorem State.pushed_withCpu (s : State) {c : Cpu} (sp : c.sp = s.cpu.sp) (w : Word) :
    ({ s with cpu := c } : State).pushed w = { s.pushed w with cpu := c } := by
  simp only [State.pushed, State.memWrite_withCpu, sp]

/-- The service in the statements' words: the two stores of a push, and the CPU after it. -/
theorem State.serviceInterrupt_pushed (s : State) (c : Cpu) (sp : c.sp = s.cpu.sp) :
    let n := lowestLine s.pending
    let u : State := { s with irq.ifl := s.irq.ifl &&& ~~~(1#5 <<< n) }
    ({ s with cpu := c } : State).serviceInterrupt =
      { u.pushed (if c.haltBug then c.pc - 1#16 else c.pc) with
        cpu := { c with
          ime := false, eiPending := false, haltBug := false
          sp := c.sp - 2#16, pc := vector n, stepCost := 20 } } := by
  intro n u
  have stores := State.pushed_withCpu u (c := { c with ime := false, eiPending := false, haltBug := false })
    sp (if c.haltBug then c.pc - 1#16 else c.pc)
  rw [State.serviceInterrupt_eq, State.push16_eq]
  exact congrArg (fun t : State => { t with
    cpu := { c with
      ime := false, eiPending := false, haltBug := false
      sp := c.sp - 2#16, pc := vector n, stepCost := 20 } }) stores

end Sys2Proof.Machine

open Sys2Proof Sys2Proof.Machine in
/-- Settles O4: the decoder and the fetch agree on the instruction and on its length. -/
theorem stepRunsDecodedInstr : Obligations.StepRunsDecodedInstr := by
  intro s i rest runs bug decoded
  have fetched := State.fetchInstr_of_decode bug decoded
  obtain ⟨t, next⟩ := exec_next i (s.fetched (encode i).length)
  have next' : exec s.fetchInstr.1 s.fetchInstr.2 = .next t := by rw [fetched, next]
  rw [next]
  dsimp only
  split
  · rename_i f fault
    exact (step_of_fault (runs.cpuStep_eq.trans (State.runInstr_fault next' fault))).2
  · rename_i fault
    exact step_of_cpuStep (runs.cpuStep_eq.trans (State.runInstr_next next' fault))

open Sys2Proof.Machine in
/-- Settles O6: the idle slot while a latch holds, and the way on with the latch cleared when it does not. -/
theorem idleAndWakeUp : Obligations.IdleAndWakeUp := by
  intro s fault
  refine ⟨fun stopped lines => ?held, fun stopped lines => ?released, fun stopped halted pending => ?halted,
    fun stopped halted pending => ?awake⟩
  case held =>
    have idle := State.cpuStep_held fault stopped lines
    exact ⟨idle, step_of_cpuStep idle⟩
  case released =>
    rw [State.cpuStep_released fault fun _ => lines]
    exact (State.cpuStep_released (s := { s with cpu.stopped := false }) fault nofun).symm
  all_goals
    have notStopped : s.cpu.stopped = true → s.joypad.lines ≠ 0xF#4 := fun h => by simp [stopped] at h
    have go := State.cpuStep_released fault notStopped
    rw [State.clear_stopped stopped] at go
  case halted =>
    rw [State.haltedOrAwake_idle halted pending] at go
    exact ⟨go, step_of_cpuStep go⟩
  case awake =>
    rw [go, State.haltedOrAwake_awake fun _ => pending,
      State.cpuStep_released (s := { s with cpu.halted := false }) fault notStopped,
      State.clear_stopped (s := { s with cpu.halted := false }) stopped]
    exact (State.haltedOrAwake_awake (s := { s with cpu.halted := false }) nofun).symm

open Sys2Proof.Machine in
/-- Settles O7: the two cases of the delayed enable; what sets IME; and that a step with IME set does not see
the latch. -/
theorem delayedEnable : Obligations.DelayedEnable := by
  refine ⟨fun s t runs next fault => ?enable, fun s => State.cpuStep_sets_ime, fun s b ime => step_latch ime b⟩
  rw [runs.cpuStep_eq, State.runInstr_next next fault]
  refine ⟨rfl, fun ⟨before, after⟩ => ?_, State.applyEi_unset⟩
  rw [before, State.applyEi_set after]

open Sys2Proof.Machine in
/-- Settles O8: the line is the lowest pending one, and the service is a push between its writes of the CPU's
latches. -/
theorem interruptService : Obligations.InterruptService := by
  intro s fault released ime pending
  obtain ⟨small, set, lowest⟩ := lowestLine_spec pending
  refine ⟨lowestLine s.pending, small, set, lowest, ?_⟩
  rw [State.cpuStep_released fault released]
  rw [State.haltedOrAwake_awake (s := { s with cpu.stopped := false }) fun _ => pending,
    State.serviceOrRun_service (s := { s with cpu.stopped := false, cpu.halted := false }) ime pending]
  exact congrArg (·, StepResult.ok 20) (State.serviceInterrupt_pushed s _ rfl)

end

/-! SUPPORT and proofs. The statements of 60_exceptions.md on the timer, the DMA engine and the joypad. -/

section

namespace Sys2Proof.Machine

/-! ## Requests, line by line -/

/-- A request sets its own line of IF and no other (60_exceptions.md R320). -/
theorem State.requestIf_line (s : State) (b : Bool) {n m : Nat} (hn : n < 5) (hm : m < 5) :
    (s.requestIf b n).irq.ifl.getLsbD m = (s.irq.ifl.getLsbD m || (b && decide (m = n))) := by
  have one : (1#5 <<< n).getLsbD m = decide (m = n) := by
    interval_cases n <;> interval_cases m <;> rfl
  cases b with
  | false => simp [State.requestIf]
  | true => simp [State.requestIf, State.request, one]

/-- The evaluation of the STAT line requests line 1 at most (60_exceptions.md R353). -/
theorem State.updateStat_line (s : State) {m : Nat} (hm : m < 5) :
    s.updateStat.irq.ifl.getLsbD m = (s.irq.ifl.getLsbD m || (s.ppu.statRises && decide (m = 1))) :=
  State.requestIf_line _ _ (by decide) hm

/-- The timer requests line 2 at most (60_exceptions.md R330). -/
theorem State.timerTick_line (s : State) {m : Nat} (hm : m < 5) :
    s.timerTick.irq.ifl.getLsbD m = (s.irq.ifl.getLsbD m || (s.timer.reloads && decide (m = 2))) :=
  State.requestIf_line _ _ (by decide) hm

/-- The events of a dot request line 0 at most (60_exceptions.md R351). -/
theorem State.ppuEvents_line (s : State) {m : Nat} (h0 : m ≠ 0) (hm : m < 5) :
    s.ppuEvents.irq.ifl.getLsbD m = s.irq.ifl.getLsbD m := by
  have kept (u : State) : (u.request 0).irq.ifl.getLsbD m = u.irq.ifl.getLsbD m := by
    rw [show u.request 0 = u.requestIf true 0 from rfl, State.requestIf_line _ _ (by decide) hm]
    simp [h0]
  unfold State.ppuEvents
  dsimp only
  split
  · split
    · rfl
    · rfl
    · split <;> rfl
  · split
    · exact kept _
    · rfl

/-- The timer's line is requested in the T-cycle that reloads TIMA, and only by the timer (60_exceptions.md
R330). -/
theorem State.tick_line_timer (s : State) :
    s.tick.irq.ifl.getLsbD 2 = (s.irq.ifl.getLsbD 2 || s.timer.reloads) := by
  have dot (u : State) : u.ppuTick.irq.ifl.getLsbD 2 = u.irq.ifl.getLsbD 2 := by
    unfold State.ppuTick
    split
    · rw [State.updateStat_line _ (by decide), State.ppuEvents_line _ (by decide) (by decide)]
      simp
    · rfl
  rw [State.tick_irq, dot, State.timerTick_line _ (by decide)]
  simp

/-- The last of some T-cycles. -/
theorem State.advance_succ (n : Nat) (s : State) : State.advance (n + 1) s = (State.advance n s).tick :=
  State.advance_add n 1 s

theorem State.advance_line_timer (n : Nat) (s : State) :
    (State.advance n s).irq.ifl.getLsbD 2 = true ↔
      s.irq.ifl.getLsbD 2 = true ∨ ∃ k < n, (Timer.tick^[k] s.timer).reloads = true := by
  induction n with
  | zero => simp [State.advance]
  | succ n ih =>
    rw [State.advance_succ, State.tick_line_timer, Bool.or_eq_true, ih, State.advance_timer, or_assoc]
    simp only [Nat.lt_succ_iff_lt_or_eq, or_and_right, exists_or, exists_eq_left]

/-! ## The timer's input signal -/

/-- The counter bit of TAC (60_exceptions.md R334), in the statement's words. -/
theorem Timer.selectedBit_eq (t : Timer) : [9, 3, 5, 7].getD (t.tac.toNat % 4) 0 = t.selectedBit := by
  unfold Timer.selectedBit
  generalize t.tac = tac
  revert tac
  decide

theorem Timer.selectedBit_mem (t : Timer) : t.selectedBit ∈ [9, 3, 5, 7] := by
  unfold Timer.selectedBit
  split_ifs <;> decide

/-- The period of the selected counter bit, in T-cycles. -/
def Timer.period (t : Timer) : Nat := 2 ^ (t.selectedBit + 1)

theorem Timer.period_mem (t : Timer) : t.period ∈ [1024, 16, 64, 256] := by
  have h := t.selectedBit_mem
  unfold Timer.period
  revert h
  generalize t.selectedBit = k
  simp only [List.mem_cons, List.not_mem_nil, or_false]
  rintro (rfl | rfl | rfl | rfl) <;> decide

/-- The input signal falls in the next T-cycle. -/
def Timer.falls (t : Timer) : Bool := t.signal && !({ t with tcount := t.tcount + 1#16 } : Timer).signal

/-- The signal falls where the counter ends a period. -/
theorem Timer.falls_iff (t : Timer) :
    t.falls = true ↔ t.tac.getLsbD 2 = true ∧ t.tcount.toNat % t.period = t.period - 1 := by
  have bitAt (w : Word) (k : Nat) : w.getLsbD k = decide (w.toNat / 2 ^ k % 2 = 1) := by
    rw [BitVec.getLsbD, Nat.testBit_eq_decide_div_mod_eq]
  have hk := t.selectedBit_mem
  have next : ({ t with tcount := t.tcount + 1#16 } : Timer).signal =
    (t.tac.getLsbD 2 && (t.tcount + 1#16).getLsbD t.selectedBit) := rfl
  unfold Timer.falls Timer.period
  rw [next, Timer.signal, bitAt, bitAt, BitVec.toNat_add]
  generalize t.selectedBit = k at hk ⊢
  have hc := t.tcount.isLt
  generalize t.tcount.toNat = c at hc ⊢
  cases t.tac.getLsbD 2 with
  | false => simp
  | true =>
    simp only [Bool.true_and, Bool.and_eq_true, Bool.not_eq_true', decide_eq_true_eq, decide_eq_false_iff_not,
      true_and, BitVec.toNat_ofNat]
    fin_cases hk <;> omega

/-- A T-cycle without a falling edge moves the counter and the reload window (60_exceptions.md R330). -/
theorem Timer.tick_quiet {t : Timer} (h : t.falls = false) :
    t.tick = ({ t with tcount := t.tcount + 1#16 } : Timer).countReload := by
  have kept : (({ t with tcount := t.tcount + 1#16 } : Timer).countReload).signal =
      ({ t with tcount := t.tcount + 1#16 } : Timer).signal := by
    unfold Timer.countReload
    split <;> rfl
  rw [Timer.tick, Timer.edge, kept]
  exact if_neg (ne_true_of_eq_false h)

/-- A T-cycle with a falling edge and no reload pending counts (60_exceptions.md R330, R331). -/
theorem Timer.tick_falls {t : Timer} (h : t.falls = true) (reload : t.reloadCnt = 0) :
    t.tick = ({ t with tcount := t.tcount + 1#16 } : Timer).increment := by
  have quiet : ({ t with tcount := t.tcount + 1#16 } : Timer).countReload =
      { t with tcount := t.tcount + 1#16 } := by simp only [Timer.countReload, reload]
  rw [Timer.tick, quiet]
  exact if_pos h

/-- With no reload pending either, only the counter moves. -/
theorem Timer.tick_idle {t : Timer} (h : t.falls = false) (reload : t.reloadCnt = 0) :
    t.tick = { t with tcount := t.tcount + 1#16 } := by
  simp only [Timer.tick_quiet h, Timer.countReload, reload]

/-- While a reload is pending its count goes down; at 1 TIMA takes TMA (60_exceptions.md R330). -/
theorem Timer.tick_pending {t : Timer} {k : Nat} (h : t.falls = false) (reload : t.reloadCnt = k + 2) :
    t.tick = { t with tcount := t.tcount + 1#16, reloadCnt := k + 1 } := by
  simp only [Timer.tick_quiet h, Timer.countReload, reload]

theorem Timer.tick_reload {t : Timer} (h : t.falls = false) (reload : t.reloadCnt = 1) :
    t.tick = { t with tcount := t.tcount + 1#16, reloadCnt := 0, tima := t.tma } := by
  simp only [Timer.tick_quiet h, Timer.countReload, reload]

theorem add_ofNat_add_one (c : Word) (n : Nat) : c + BitVec.ofNat 16 n + 1#16 = c + BitVec.ofNat 16 (n + 1) := by
  rw [BitVec.add_assoc, BitVec.ofNat_add]

/-- The signal after `n` more T-cycles falls where the counter's place in its period says so: the period
divides 2^16. -/
theorem Timer.falls_after {t u : Timer} (tac : u.tac = t.tac) (n : Nat)
    (tcount : u.tcount = t.tcount + BitVec.ofNat 16 n) :
    u.falls = true ↔ t.tac.getLsbD 2 = true ∧ (t.tcount.toNat + n) % t.period = t.period - 1 := by
  have period : u.period = t.period := by
    unfold Timer.period Timer.selectedBit
    rw [tac]
  have divides : t.period ∣ 2 ^ 16 := by
    have h := t.period_mem
    generalize t.period = p at h ⊢
    fin_cases h <;> decide
  rw [Timer.falls_iff, period, tac, tcount, BitVec.toNat_add, BitVec.toNat_ofNat, Nat.mod_mod_of_dvd _ divides,
    Nat.add_mod, Nat.mod_mod_of_dvd _ divides, ← Nat.add_mod]

/-! ## The rate -/

/-- The timer `n` T-cycles on, with no reload and no overflow: it has counted once if the counter's own
period has ended. -/
def Timer.counted (t : Timer) (n : Nat) : Timer :=
  { t with
    tcount := t.tcount + BitVec.ofNat 16 n
    tima := if t.tcount.toNat % t.period + n < t.period then t.tima else t.tima + 1#8 }

theorem Timer.iterate_tick {t : Timer} (enabled : t.tac.getLsbD 2 = true) (reload : t.reloadCnt = 0)
    (tima : t.tima ≠ 0xFF#8) {n : Nat} (hn : n ≤ t.period) : Timer.tick^[n] t = t.counted n := by
  have phase_lt : t.tcount.toNat % t.period < t.period := Nat.mod_lt _ (Nat.two_pow_pos _)
  induction n with
  | zero => simp [Timer.counted, phase_lt]
  | succ n ih =>
    have fall := Timer.falls_after (t := t) (u := t.counted n) rfl n rfl
    rw [← Nat.mod_add_mod] at fall
    rw [Function.iterate_succ_apply', ih (by omega)]
    by_cases edge : t.tcount.toNat % t.period + n + 1 = t.period
    · have falls : (t.counted n).falls = true :=
        fall.2 ⟨enabled, by rw [Nat.mod_eq_of_lt (by omega)]; exact Nat.eq_sub_of_add_eq edge⟩
      have before : (t.counted n).tima = t.tima := if_pos (by omega)
      rw [Timer.tick_falls falls reload, Timer.increment, before, if_neg tima, Timer.counted, Timer.counted,
        if_neg (c := t.tcount.toNat % t.period + (n + 1) < t.period) (by omega)]
      simp only [add_ofNat_add_one]
    · have quiet : (t.counted n).falls = false := by
        rw [Bool.eq_false_iff]
        intro h
        obtain ⟨-, at_end⟩ := fall.1 h
        by_cases before : t.tcount.toNat % t.period + n < t.period
        · rw [Nat.mod_eq_of_lt before] at at_end
          omega
        · rw [Nat.mod_eq_sub_mod (by omega), Nat.mod_eq_of_lt (by omega)] at at_end
          omega
      have same : t.tcount.toNat % t.period + (n + 1) < t.period ↔ t.tcount.toNat % t.period + n < t.period := by
        omega
      rw [Timer.tick_idle quiet reload, Timer.counted, Timer.counted]
      simp only [add_ofNat_add_one, same]

/-! ## The overflow -/

/-- The timer `n` T-cycles after an overflow: TIMA is 0 while the reload is pending (60_exceptions.md R330). -/
def Timer.overflowed (t : Timer) (n : Nat) : Timer :=
  { t with tcount := t.tcount + BitVec.ofNat 16 (n + 1), tima := 0x00#8, reloadCnt := 4 - n }

section
variable {t : Timer} (falls : t.falls = true)
include falls

/-- In the five T-cycles after a falling edge the signal does not fall again: a period is longer. -/
theorem Timer.quiet_after_fall {u : Timer} (tac : u.tac = t.tac) {n : Nat} (hn : n ≤ 4)
    (tcount : u.tcount = t.tcount + BitVec.ofNat 16 (n + 1)) : u.falls = false := by
  obtain ⟨-, at_end⟩ := t.falls_iff.1 falls
  have long := t.period_mem
  rw [Bool.eq_false_iff, Ne, Timer.falls_after tac (n + 1) tcount]
  rintro ⟨-, again⟩
  rw [Nat.add_mod, at_end] at again
  generalize t.period = p at long again
  fin_cases long <;> interval_cases n <;> simp at again

variable (reload : t.reloadCnt = 0) (tima : t.tima = 0xFF#8)
include reload tima

theorem Timer.iterate_overflow {n : Nat} (hn : n ≤ 3) : Timer.tick^[n + 1] t = t.overflowed n := by
  induction n with
  | zero =>
    show t.tick = _
    rw [Timer.tick_falls falls reload, Timer.increment, if_pos tima]
    rfl
  | succ n ih =>
    have pending : (t.overflowed n).reloadCnt = 2 - n + 2 := by
      show 4 - n = _
      omega
    have left : 2 - n + 1 = 4 - (n + 1) := by omega
    have quiet : (t.overflowed n).falls = false := Timer.quiet_after_fall falls rfl (by omega) rfl
    rw [Function.iterate_succ_apply', ih (by omega), Timer.tick_pending quiet pending, left, Timer.overflowed,
      add_ofNat_add_one]
    rfl

/-- The T-cycle after them reloads TIMA from TMA. -/
theorem Timer.iterate_reload :
    Timer.tick^[5] t = { t with tcount := t.tcount + BitVec.ofNat 16 5, tima := t.tma, reloadCnt := 0 } := by
  have quiet : (t.overflowed 3).falls = false := Timer.quiet_after_fall falls rfl (by decide) rfl
  rw [Function.iterate_succ_apply', Timer.iterate_overflow falls reload tima (Nat.le_refl 3),
    Timer.tick_reload quiet rfl, Timer.overflowed, add_ofNat_add_one]

/-- The reload, and so the request, is in the fifth T-cycle and not sooner. -/
theorem Timer.reloads_iterate {k : Nat} (hk : k ≤ 4) : (Timer.tick^[k] t).reloads = true ↔ k = 4 := by
  cases k with
  | zero => simp [Timer.reloads, reload]
  | succ n =>
    rw [Timer.iterate_overflow falls reload tima (by omega), Timer.reloads, decide_eq_true_iff]
    show 4 - n = 1 ↔ _
    omega

end

/-! ## The DMA engine -/

section
variable {s : State}

/-- One T-cycle of a transfer: the count moves on, and at 640 the transfer is over (60_exceptions.md R341). -/
theorem State.dmaTick_dma (active : s.dma.active = true) :
    s.dmaTick.dma = { s.dma with t := s.dma.t + 1, active := decide (s.dma.t + 1 ≠ 640) } := by
  unfold State.dmaTick
  rw [if_pos active]
  dsimp only
  split
  · exact congrArg (fun b => ({ s.dma with t := s.dma.t + 1, active := b } : Dma)) (decide_eq_decide.2 (by omega))
  · rw [active, decide_eq_true (p := s.dma.t + 1 ≠ 640) (by omega)]

/-- One T-cycle of a transfer stores byte `j` of OAM when it is the last of its four (60_exceptions.md
R341). -/
theorem State.dmaTick_oam_read (active : s.dma.active = true) (j : Nat) :
    s.dmaTick.oam.read j =
      if s.dma.t + 1 = 4 * j + 4 then s.busRead (s.dma.src ++ BitVec.ofNat 8 j) else s.oam.read j := by
  unfold State.dmaTick
  rw [if_pos active]
  dsimp only
  split
  · rw [Cells.read_write]
    by_cases h : j = (s.dma.t + 1) / 4 - 1
    · rw [if_pos h, if_pos (by omega), ← h]
    · rw [if_neg h, if_neg (by omega)]
  · rw [if_neg (by omega)]

/-- The engine in the T-cycles of a transfer (60_exceptions.md R341). -/
theorem State.advance_dma {v : Byte} (start : s.dma = { reg := v, active := true, src := v, t := 0 }) {n : Nat}
    (hn : n ≤ 640) :
    (State.advance n s).dma = { reg := v, active := decide (n ≠ 640), src := v, t := n } := by
  induction n with
  | zero => exact start
  | succ n ih =>
    obtain ⟨dma, kept, -⟩ := (State.advance n s).tick_dma
    rw [ih (by omega), decide_eq_true (p := n ≠ 640) (by omega)] at kept
    rw [State.advance_succ, dma, State.dmaTick_dma (congrArg Dma.active kept), kept]

/-- OAM in the T-cycles of a transfer: byte `j` is stored in T-cycle 4j + 4 (60_exceptions.md R341). -/
theorem State.advance_oam_read {v : Byte} (start : s.dma = { reg := v, active := true, src := v, t := 0 })
    {n : Nat} (hn : n ≤ 640) (j : Nat) :
    (State.advance n s).oam.read j =
      if 4 * j + 4 ≤ n then
        (State.advance (4 * j + 3) s).timerTick.ppuTick.busRead (v ++ BitVec.ofNat 8 j)
      else s.oam.read j := by
  induction n with
  | zero => rfl
  | succ n ih =>
    obtain ⟨-, dma, oam⟩ := (State.advance n s).tick_dma
    rw [State.advance_dma start (by omega), decide_eq_true (p := n ≠ 640) (by omega)] at dma
    rw [State.advance_succ, State.tick, State.dmaTick_oam_read (congrArg Dma.active dma), dma, oam,
      ih (by omega)]
    dsimp only
    by_cases stored : n + 1 = 4 * j + 4
    · obtain rfl : n = 4 * j + 3 := by omega
      rw [if_pos rfl, if_pos (Nat.le_refl _)]
    · rw [if_neg stored]
      exact if_congr (by omega) rfl rfl

/-- Below the registers the read decoder sees the memories only, and OAM only in its own page. -/
theorem State.busRead_congr {t : State} {a : Word} (below : a.toNat < 0xFF00) (cart : t.cart = s.cart)
    (vram : t.vram = s.vram) (wram : t.wram = s.wram)
    (oam : ∀ off, a.toNat = 0xFE00 + off → t.oam.read off = s.oam.read off) : t.busRead a = s.busRead a := by
  have spec := decodeAddr_spec a
  unfold State.busRead
  cases hd : decodeAddr a with rw [hd] at spec
  | cartRom x => rw [cart]
  | vram off => rw [vram]
  | cartRam off => rw [cart]
  | wram off => rw [wram]
  | oam off => exact oam off spec.2
  | io r =>
    obtain ⟨h, -, -⟩ := spec
    omega
  | hram off =>
    obtain ⟨-, h⟩ := spec
    omega
  | ie =>
    have h : a.toNat = 0xFFFF := spec
    omega

/-- The source of byte `i`, in the statement's words (60_exceptions.md R341). -/
theorem append_ofNat_eq (v : Byte) {i : Nat} (hi : i < 256) :
    v ++ BitVec.ofNat 8 i = BitVec.ofNat 16 (256 * v.toNat + i) := by
  have hv := v.isLt
  apply BitVec.eq_of_toNat_eq
  rw [toNat_append_eq, BitVec.toNat_ofNat, BitVec.toNat_ofNat]
  omega

/-- A write to FF46 starts the transfer even while another is in flight (20_memory.md R72; 60_exceptions.md
R340). -/
theorem State.memWrite_ff46 (s : State) (v : Byte) : s.memWrite 0xFF46#16 v = s.startDma v := by
  have reached : s.blocked 0xFF46#16 = false := by simp [State.blocked, dmaReaches]
  rw [State.memWrite, reached]
  exact s.busWrite_addr .dma v

theorem State.timerTick_memories (s : State) :
    s.timerTick.cart = s.cart ∧ s.timerTick.vram = s.vram ∧ s.timerTick.wram = s.wram := by
  simp [State.timerTick]

/-- From any page but that of the registers, the transfer copies what was there when it started: OAM, too, as
a byte of it is not stored before it is read. -/
theorem State.transfer_source (s : State) {v : Byte} (page : v ≠ 0xFF#8) {i : Nat} (hi : i < 160) :
    (State.advance (4 * i + 3) (s.startDma v)).timerTick.ppuTick.busRead (v ++ BitVec.ofNat 8 i) =
      s.busRead (v ++ BitVec.ofNat 8 i) := by
  have below : v.toNat < 0xFF := by
    have := v.isLt
    have : v.toNat ≠ 0xFF := fun h => page (BitVec.eq_of_toNat_eq h)
    omega
  have address : (v ++ BitVec.ofNat 8 i).toNat = 256 * v.toNat + i := by
    rw [append_ofNat_eq v (by omega), BitVec.toNat_ofNat]
    omega
  generalize hn : 4 * i + 3 = n
  obtain ⟨-, -, -, -, cart, vram, wram, -⟩ := State.advance_other n (s.startDma v)
  have oam := State.advance_oam_read (s := s.startDma v) (n := n) rfl (by omega) i
  rw [if_neg (by omega)] at oam
  generalize State.advance n (s.startDma v) = u at *
  obtain ⟨cart', vram', wram'⟩ := u.timerTick_memories
  obtain ⟨-, -, -, -, -, cart'', vram'', wram'', -⟩ := u.timerTick.ppuTick_other
  obtain ⟨-, -, oam'⟩ := u.tick_dma
  refine State.busRead_congr (by omega) (cart''.trans (cart'.trans cart)) (vram''.trans (vram'.trans vram))
    (wram''.trans (wram'.trans wram)) fun off h => ?_
  obtain rfl : off = i := by omega
  rw [oam', oam]
  rfl

end

/-! ## The joypad -/

/-- What the edge detector looks for (60_exceptions.md R345). -/
theorem linesFell_iff (before after : BitVec 4) :
    linesFell before after = true ↔ ∃ k, k < 4 ∧ before.getLsbD k = true ∧ after.getLsbD k = false := by
  revert before after
  decide

theorem getLsbD_four_bits (a b c d : Bool) :
    let v : BitVec 4 := bit a ++ bit b ++ bit c ++ bit d
    v.getLsbD 0 = d ∧ v.getLsbD 1 = c ∧ v.getLsbD 2 = b ∧ v.getLsbD 3 = a := by
  revert a b c d
  decide

/-- The four lines, one by one. -/
theorem Joypad.lines_getLsbD (j : Joypad) :
    j.lines.getLsbD 0 = j.line j.pressed.right j.pressed.a ∧
      j.lines.getLsbD 1 = j.line j.pressed.left j.pressed.b ∧
      j.lines.getLsbD 2 = j.line j.pressed.up j.pressed.select ∧
      j.lines.getLsbD 3 = j.line j.pressed.down j.pressed.start :=
  getLsbD_four_bits ..

theorem Joypad.read_toNat (j : Joypad) : j.read.toNat = 0xC0 + 16 * j.sel.toNat + j.lines.toNat := by
  rw [Joypad.read, toNat_append_eq, toNat_append_eq]
  simp
  omega

/-- An index below 8 is a button (60_exceptions.md R396). -/
theorem State.setButton_fin (s : State) (i : Fin 8) (v : Bool) :
    s.setButton i.val v = .ok (s.joypadEvent { s.joypad with pressed := s.joypad.pressed.set i v }) :=
  dif_pos i.isLt

theorem State.setButton_invalid (s : State) {i : Nat} (h : 8 ≤ i) (v : Bool) :
    s.setButton i v = .error .invalidButton :=
  dif_neg (by omega)

/-- P1 stores the two select bits of the byte written (10_state.md R39). -/
theorem Joypad.write_eq (j : Joypad) (v : Byte) : j.write v = { j with sel := BitVec.ofNat 2 (v.toNat / 16) } := by
  have sel : v.extractLsb' 4 2 = BitVec.ofNat 2 (v.toNat / 16) := by
    apply BitVec.eq_of_toNat_eq
    simp [Nat.shiftRight_eq_div_pow]
  rw [Joypad.write, sel]

end Sys2Proof.Machine

open Sys2Proof.Machine in
/-- Settles O42: the counter falls once in the five T-cycles, and the reload is in the last of them. -/
theorem timerOverflow : Obligations.TimerOverflow := by
  intro s tima reload before after
  have falls : s.timer.falls = true := by rw [Timer.falls, before, after]; rfl
  refine ⟨fun n h1 h4 => ?_, ?_⟩
  · obtain ⟨k, rfl⟩ : ∃ k, n = k + 1 := ⟨n - 1, by omega⟩
    constructor
    · rw [State.advance_timer, Timer.iterate_overflow falls reload tima (by omega)]
      rfl
    · rw [Bool.eq_iff_iff, State.advance_line_timer, or_iff_left]
      rintro ⟨m, hm, h⟩
      have := (Timer.reloads_iterate falls reload tima (by omega)).1 h
      omega
  · rw [State.advance_timer, Timer.iterate_reload falls reload tima, State.advance_line_timer]
    exact ⟨rfl, rfl, .inr ⟨4, by decide, (Timer.reloads_iterate falls reload tima (Nat.le_refl 4)).2 rfl⟩⟩

open Sys2Proof.Machine in
/-- Settles O43: in one period of the selected bit the signal falls once. -/
theorem timerRate : Obligations.TimerRate := by
  intro s
  dsimp only
  rw [Timer.selectedBit_eq]
  refine ⟨rfl, fun enabled reload tima => ?_⟩
  have counted := Timer.iterate_tick enabled reload tima (Nat.le_refl _)
  rw [Timer.counted, if_neg (by omega)] at counted
  exact (State.advance_timer _ s).trans counted

open Sys2Proof.Machine in
/-- Settles O44: each write is the register's own. -/
theorem timerWrites : Obligations.TimerWrites := by
  intro s v idle
  have tac : v.setWidth 3 = BitVec.ofNat 3 v.toNat := rfl
  refine ⟨?_, ?_, State.memWrite_addr idle .tima v, State.memWrite_addr idle .tma v⟩
  · refine (State.memWrite_addr idle .div v).trans ?_
    rw [State.writeIo, Timer.resetCounter_eq]
    rfl
  · refine (State.memWrite_addr idle .tac v).trans ?_
    rw [State.writeIo, Timer.writeTac, Timer.edge, tac]
    simp only [Bool.and_eq_true, Bool.not_eq_true']
    rfl

open Sys2Proof.Machine in
/-- Settles O45: the engine's count and OAM through the 640 T-cycles. -/
theorem dmaCopies : Obligations.DmaCopies := by
  intro s v
  dsimp only
  rw [State.memWrite_ff46]
  have copied (i : Nat) (hi : i < 160) :=
    (State.advance_oam_read (s := s.startDma v) rfl (Nat.le_refl 640) i).trans (if_pos (by omega))
  refine ⟨rfl, fun n hn => ?_, ?_, fun i hi => ?_, fun page i hi => ?_⟩
  · rw [State.advance_dma rfl (by omega)]
    exact decide_eq_true (by omega)
  · rw [State.advance_dma rfl (Nat.le_refl 640)]
    rfl
  · rw [copied i hi, append_ofNat_eq v (by omega)]
  · rw [copied i hi, s.transfer_source page hi, append_ofNat_eq v (by omega)]

open Sys2Proof.Machine in
/-- Settles O46: the lines and P1, the edge detector, the buttons and the write of P1. -/
theorem joypadLines : Obligations.JoypadLines := by
  refine ⟨fun j => ?lines, fun s j => ?event, fun p v => ⟨rfl, rfl, rfl, rfl, rfl, rfl, rfl, rfl⟩,
    fun s i => ⟨s.setButton_fin i true, s.setButton_fin i false⟩,
    fun s i h => ⟨s.setButton_invalid h true, s.setButton_invalid h false⟩, fun s v idle => ?write⟩
  case lines =>
    obtain ⟨h0, h1, h2, h3⟩ := j.lines_getLsbD
    exact ⟨h0, h1, h2, h3, j.read_toNat⟩
  case event =>
    dsimp only
    rw [← linesFell_iff]
    refine ⟨fun fell => ?_, fun fell => ?_⟩
    · rw [State.joypadEvent, fell]
      rfl
    · rw [State.joypadEvent, eq_false_of_ne_true fell]
      rfl
  case write =>
    rw [← Joypad.write_eq]
    exact State.memWrite_addr idle .p1 v

end

/-! SUPPORT and proofs. The statements of 60_exceptions.md on the PPU: the frame, the STAT line, the LCD
switch and the renderer. -/

section

namespace Sys2Proof.Machine

/-! ## One dot -/

/-- The events of a dot leave the position, LCDC and the latched STAT line (60_exceptions.md R351). -/
theorem State.ppuEvents_kept (s : State) :
    s.ppuEvents.ppu.lcdc = s.ppu.lcdc ∧ s.ppuEvents.ppu.ly = s.ppu.ly ∧ s.ppuEvents.ppu.dot = s.ppu.dot ∧
      s.ppuEvents.ppu.statLine = s.ppu.statLine := by
  unfold State.ppuEvents
  dsimp only
  split
  · split
    · exact ⟨rfl, rfl, rfl, rfl⟩
    · exact ⟨rfl, rfl, rfl, rfl⟩
    · split <;> exact ⟨rfl, rfl, rfl, rfl⟩
  · split <;> exact ⟨rfl, rfl, rfl, rfl⟩

theorem Ppu.advanceDot_kept (p : Ppu) : p.advanceDot.lcdc = p.lcdc ∧ p.advanceDot.statLine = p.statLine := by
  unfold Ppu.advanceDot
  split <;> exact ⟨rfl, rfl⟩

theorem State.timerTick_ppu (s : State) : s.timerTick.ppu = s.ppu := by simp [State.timerTick]

/-- The machine on arriving at the next dot, with its events but before the STAT line is evaluated. -/
def State.arrived (s : State) : State := State.ppuEvents { s.timerTick with ppu := s.ppu.advanceDot }

section
variable {s : State}

/-- With the LCD on, a T-cycle ends with the evaluation of the STAT line (60_exceptions.md R350). -/
theorem State.tick_on (on : s.ppu.lcdOn = true) :
    s.tick.ppu = s.arrived.ppu.latchStat ∧ s.tick.irq = s.arrived.updateStat.irq := by
  have dot : s.timerTick.ppuTick = s.arrived.updateStat := by
    rw [State.ppuTick, s.timerTick_ppu, if_pos on, State.arrived]
  rw [State.tick_ppu, State.tick_irq, dot]
  exact ⟨State.updateStat_ppu _, rfl⟩

/-- With the LCD off, a T-cycle leaves the PPU (60_exceptions.md R360). -/
theorem State.tick_off (off : s.ppu.lcdOn = false) :
    s.tick.ppu = s.ppu ∧ s.tick.irq = s.timerTick.irq := by
  have dot : s.timerTick.ppuTick = s.timerTick := by
    rw [State.ppuTick, s.timerTick_ppu, off]
    rfl
  rw [State.tick_ppu, State.tick_irq, dot]
  exact ⟨s.timerTick_ppu, rfl⟩

theorem State.arrived_kept (s : State) :
    s.arrived.ppu.lcdc = s.ppu.lcdc ∧ s.arrived.ppu.ly = s.ppu.advanceDot.ly ∧
      s.arrived.ppu.dot = s.ppu.advanceDot.dot ∧ s.arrived.ppu.statLine = s.ppu.statLine := by
  obtain ⟨lcdc, ly, dot, line⟩ := State.ppuEvents_kept { s.timerTick with ppu := s.ppu.advanceDot }
  obtain ⟨lcdc', line'⟩ := s.ppu.advanceDot_kept
  exact ⟨lcdc.trans lcdc', ly, dot, line.trans line'⟩

/-- No T-cycle switches the LCD. -/
theorem State.tick_lcdc (s : State) : s.tick.ppu.lcdc = s.ppu.lcdc := by
  cases on : s.ppu.lcdOn with
  | false => rw [(State.tick_off on).1]
  | true =>
    rw [(State.tick_on on).1]
    exact s.arrived_kept.1

theorem State.advance_lcdc (n : Nat) (s : State) : (State.advance n s).ppu.lcdc = s.ppu.lcdc := by
  induction n with
  | zero => rfl
  | succ n ih => rw [State.advance_succ, State.tick_lcdc, ih]

/-! ## The frame -/

/-- The LCD is on, and the position is in the frame (10_state.md R44, R49). -/
structure State.InFrame (s : State) : Prop where
  on : s.ppu.lcdOn = true
  ly : s.ppu.ly.toNat < 154
  dot : s.ppu.dot < 456

theorem Ppu.advanceDot_position {p : Ppu} (ly : p.ly.toNat < 154) (dot : p.dot < 456) :
    p.advanceDot.ly.toNat < 154 ∧ p.advanceDot.dot < 456 ∧
      p.advanceDot.position = (p.position + 1) % 70224 := by
  unfold Ppu.advanceDot Ppu.position
  split
  · have next : (BitVec.ofNat 8 ((p.ly.toNat + 1) % 154)).toNat = (p.ly.toNat + 1) % 154 := by
      rw [BitVec.toNat_ofNat]
      omega
    simp only [Ppu.compareLy, next]
    omega
  · dsimp only
    omega

/-- A T-cycle moves the position by one dot through the frame (60_exceptions.md R350). -/
theorem State.InFrame.tick (h : s.InFrame) :
    s.tick.InFrame ∧ s.tick.ppu.position = (s.ppu.position + 1) % 70224 := by
  obtain ⟨ly, dot, position⟩ := Ppu.advanceDot_position h.ly h.dot
  obtain ⟨-, lyKept, dotKept, -⟩ := s.arrived_kept
  have ppu := (State.tick_on h.on).1
  have ly' : s.tick.ppu.ly = s.ppu.advanceDot.ly := by rw [ppu]; exact lyKept
  have dot' : s.tick.ppu.dot = s.ppu.advanceDot.dot := by rw [ppu]; exact dotKept
  refine ⟨⟨?_, by rwa [ly'], by rwa [dot']⟩, by rw [← position, Ppu.position, ly', dot', Ppu.position]⟩
  rw [Ppu.lcdOn, s.tick_lcdc]
  exact h.on

theorem State.InFrame.position_lt (h : s.InFrame) : s.ppu.position < 70224 := by
  have := h.ly
  have := h.dot
  unfold Ppu.position
  omega

theorem State.InFrame.advance (h : s.InFrame) (n : Nat) :
    (State.advance n s).InFrame ∧ (State.advance n s).ppu.position = (s.ppu.position + n) % 70224 := by
  induction n with
  | zero => exact ⟨h, (Nat.mod_eq_of_lt h.position_lt).symm⟩
  | succ n ih =>
    obtain ⟨inFrame, position⟩ := ih
    obtain ⟨inFrame', position'⟩ := inFrame.tick
    rw [State.advance_succ]
    refine ⟨inFrame', ?_⟩
    rw [position', position, Nat.mod_add_mod, Nat.add_assoc]

/-- The VBlank is at one position of the frame (60_exceptions.md R351). -/
theorem State.InFrame.atVblank_iff (h : s.InFrame) : s.atVblank = true ↔ s.ppu.position = 65664 := by
  have line : s.ppu.ly = 144#8 ↔ s.ppu.ly.toNat = 144 := BitVec.toNat_inj.symm
  have := h.ly
  have := h.dot
  unfold State.atVblank Ppu.position
  rw [h.on, Bool.true_and, Bool.and_eq_true, decide_eq_true_iff, decide_eq_true_iff, line]
  omega

/-- The VBlank event falls within `n` T-cycles iff the position passes it (60_exceptions.md R397). -/
theorem State.InFrame.vblankWithin_iff (h : s.InFrame) (n : Nat) :
    State.vblankWithin n s = true ↔ ∃ k, 1 ≤ k ∧ k ≤ n ∧ (s.ppu.position + k) % 70224 = 65664 := by
  induction n generalizing s with
  | zero =>
    refine ⟨nofun, ?_⟩
    rintro ⟨k, h1, h0, -⟩
    omega
  | succ n ih =>
    obtain ⟨inFrame, position⟩ := h.tick
    have later (k : Nat) : (s.tick.ppu.position + k) % 70224 = (s.ppu.position + (k + 1)) % 70224 := by
      rw [position, Nat.mod_add_mod, Nat.add_assoc, Nat.add_comm 1 k]
    rw [State.vblankWithin, Bool.or_eq_true, inFrame.atVblank_iff, ih inFrame]
    constructor
    · rintro (now | ⟨k, h1, hn, at_k⟩)
      · exact ⟨1, Nat.le_refl 1, by omega, position.symm.trans now⟩
      · exact ⟨k + 1, by omega, by omega, (later k).symm.trans at_k⟩
    · rintro ⟨k, h1, hn, at_k⟩
      obtain rfl | hk : k = 1 ∨ 2 ≤ k := by omega
      · exact .inl (position.trans at_k)
      · obtain ⟨m, rfl⟩ : ∃ m, k = m + 1 := ⟨k - 1, by omega⟩
        exact .inr ⟨m, by omega, by omega, (later m).trans at_k⟩

/-- The VBlank event requests line 0 and enters mode 1 (60_exceptions.md R351). -/
theorem State.InFrame.vblank_event (h : s.InFrame) (next : (s.ppu.position + 1) % 70224 = 65664) :
    s.tick.irq.ifl.getLsbD 0 = true ∧ s.tick.ppu.mode = .vblank := by
  obtain ⟨ly, dot, position⟩ := Ppu.advanceDot_position h.ly h.dot
  rw [next, Ppu.position] at position
  have event : s.arrived =
      State.request { s.timerTick with ppu := { s.ppu.advanceDot with mode := .vblank } } 0 := by
    rw [State.arrived, State.ppuEvents]
    dsimp only
    rw [if_neg (by omega), if_pos (by omega)]
  obtain ⟨ppu, irq⟩ := State.tick_on h.on
  rw [ppu, irq, State.updateStat_line _ (by decide), event]
  refine ⟨?_, rfl⟩
  rw [show ∀ u : State, u.request 0 = u.requestIf true 0 from fun _ => rfl,
    State.requestIf_line _ _ (by decide) (by decide)]
  simp

/-! ## The STAT line -/

/-- The sources of the STAT line (60_exceptions.md R353). -/
theorem Ppu.statValue_iff (p : Ppu) :
    p.statValue = true ↔ p.lcdc.getLsbD 7 = true ∧
      ((p.statEn.getLsbD 3 = true ∧ p.coincidence = true) ∨
        (p.statEn.getLsbD 0 = true ∧ p.mode = .hblank) ∨
        (p.statEn.getLsbD 1 = true ∧ p.mode = .vblank) ∨
        (p.statEn.getLsbD 2 = true ∧ p.mode = .oamScan)) := by
  simp only [Ppu.statValue, Ppu.lcdOn, Bool.and_eq_true, Bool.or_eq_true, decide_eq_true_eq, or_assoc]

/-- After every dot the latched line is what the sources give (60_exceptions.md R353; log entry 9). -/
theorem State.tick_statLine (on : s.ppu.lcdOn = true) : s.tick.ppu.statLine = s.tick.ppu.statValue := by
  rw [(State.tick_on on).1]
  rfl

/-- The STAT interrupt is requested iff the line rises (60_exceptions.md R353). -/
theorem State.tick_line_stat (on : s.ppu.lcdOn = true) :
    s.tick.irq.ifl.getLsbD 1 = (s.irq.ifl.getLsbD 1 || (s.tick.ppu.statLine && !s.ppu.statLine)) := by
  obtain ⟨ppu, irq⟩ := State.tick_on on
  obtain ⟨-, -, -, line⟩ := s.arrived_kept
  have before : s.arrived.irq.ifl.getLsbD 1 = s.irq.ifl.getLsbD 1 := by
    rw [State.arrived, State.ppuEvents_line _ (by decide) (by decide)]
    exact (s.timerTick_line (by decide)).trans (by simp)
  rw [irq, ppu, State.updateStat_line _ (by decide), before, Ppu.statRises, line]
  simp [Ppu.latchStat]

/-- A register write that leaves the latched line to the evaluation at its end (60_exceptions.md R353). -/
theorem State.updateStat_eq (s : State) {r : Ppu} (line : r.statLine = s.ppu.statLine) :
    State.updateStat { s with ppu := r } =
      { s with
        ppu := { r with statLine := r.statValue }
        irq.ifl :=
          if r.statValue = true ∧ s.ppu.statLine = false then s.irq.ifl ||| 0b00010#5 else s.irq.ifl } := by
  have rises : r.statRises = true ↔ r.statValue = true ∧ s.ppu.statLine = false := by
    rw [Ppu.statRises, line, Bool.and_eq_true, Bool.not_eq_true']
  show State.requestIf { s with ppu := r.latchStat } r.statRises 1 = _
  by_cases h : r.statValue = true ∧ s.ppu.statLine = false
  · rw [if_pos h, rises.2 h]
    rfl
  · rw [if_neg h, eq_false_of_ne_true (mt rises.1 h)]
    rfl

/-! ## The LCD switch -/

/-- A write of LCDC, in the statement's words (60_exceptions.md R360; log entry 12). -/
theorem Ppu.writeLcdc_eq (p : Ppu) (v : Byte) :
    p.writeLcdc v =
      if p.lcdc.getLsbD 7 = true ∧ v.getLsbD 7 = false then
        { p with
          lcdc := v, ly := 0#8, dot := 0, mode := .hblank, fbIndex := [], fbShade := []
          coincidence := decide (p.lyc = 0#8) }
      else if p.lcdc.getLsbD 7 = false ∧ v.getLsbD 7 = true then
        { p with
          lcdc := v, ly := 0#8, dot := 0, mode := .oamScan, windowLine := 0
          coincidence := decide (p.lyc = 0#8) }
      else { p with lcdc := v } := by
  have compare : decide (p.lyc = 0#8) = decide (0#8 = p.lyc) := decide_eq_decide.2 eq_comm
  unfold Ppu.writeLcdc Ppu.lcdOn Ppu.compareLy
  dsimp only
  rw [compare]
  cases p.lcdc.getLsbD 7 <;> cases v.getLsbD 7 <;> rfl

theorem Ppu.writeLcdc_statLine (p : Ppu) (v : Byte) : (p.writeLcdc v).statLine = p.statLine := by
  rw [Ppu.writeLcdc_eq]
  split_ifs <;> rfl

theorem Ppu.writeStat_eq (p : Ppu) (v : Byte) :
    p.writeStat v = { p with statEn := BitVec.ofNat 4 (v.toNat / 8) } := by
  have enables : v.extractLsb' 3 4 = BitVec.ofNat 4 (v.toNat / 8) := by
    apply BitVec.eq_of_toNat_eq
    simp [Nat.shiftRight_eq_div_pow]
  rw [Ppu.writeStat, enables]

/-! ## Sprite selection -/

/-- Whether a sprite's Y range includes the line, on integers (60_exceptions.md R371). -/
theorem State.spriteOnLine_iff (s : State) (ly k : Nat) :
    s.spriteOnLine ly k = true ↔
      ((s.oam.read (4 * k)).toNat : Int) - 16 ≤ ly ∧
        (ly : Int) < (s.oam.read (4 * k)).toNat - 16 + if s.ppu.lcdc.getLsbD 2 then 16 else 8 := by
  have height : (s.ppu.objHeight : Int) = if s.ppu.lcdc.getLsbD 2 then 16 else 8 := by
    unfold Ppu.objHeight Ppu.lcdcBit
    split <;> rfl
  rw [← height, State.spriteOnLine, Bool.and_eq_true, decide_eq_true_iff, decide_eq_true_iff, State.oamByte,
    Nat.add_zero]
  omega

/-- What a rising list's first `n` elements leave out comes after all of them, and they are `n`. -/
theorem take_of_pairwise_lt {l : List Nat} (rising : l.Pairwise (· < ·)) {n k : Nat} (hk : k ∈ l)
    (left : k ∉ l.take n) : (l.take n).length = n ∧ ∀ j ∈ l.take n, j < k := by
  rw [← List.take_append_drop n l] at rising hk
  have later : k ∈ l.drop n := (List.mem_append.1 hk).resolve_left left
  obtain ⟨-, -, before⟩ := List.pairwise_append.1 rising
  refine ⟨?_, fun j hj => before j hj k later⟩
  have := List.length_pos_of_mem later
  rw [List.length_drop] at this
  rw [List.length_take]
  omega

theorem State.mem_selectSprites {ly k : Nat} (h : k ∈ s.selectSprites ly) :
    k < 40 ∧ s.spriteOnLine ly k = true := by
  simpa using List.mem_of_mem_take h

/-! ## Rendering a line -/

/-- The entries of a row that a line is written to. -/
theorem read_writeRow_pixels {w : Nat} (m : Cells w) (base : Nat) (f : Nat → BitVec w) (a : Nat) :
    (m.writeRow base ((List.range 160).map f)).read a =
      if base ≤ a ∧ a < base + 160 then f (a - base) else m.read a := by
  rw [Cells.read_writeRow, List.length_map, List.length_range]
  by_cases h : base ≤ a ∧ a < base + 160
  · rw [if_pos h, if_pos h, List.getD_eq_getElem _ _ (by simp; omega)]
    simp
  · rw [if_neg h, if_neg h]

/-- The planes after a line is rendered (60_exceptions.md R370). -/
theorem State.renderLine_planes (s : State) (ly a : Nat) :
    ((s.renderLine ly).ppu.fbIndex.read a, (s.renderLine ly).ppu.fbShade.read a) =
      if 160 * ly ≤ a ∧ a < 160 * ly + 160 then s.pixel (s.selectSprites ly) (a - 160 * ly) ly
      else (s.ppu.fbIndex.read a, s.ppu.fbShade.read a) := by
  simp only [State.renderLine, List.map_map, read_writeRow_pixels]
  split <;> rfl

theorem State.drewWindow_iff (s : State) (ly : Nat) :
    s.drewWindow ly = true ↔ ∃ x, x < 160 ∧ s.windowCovers x ly = true := by
  simp [State.drewWindow]

/-- The T-cycle that arrives at dot 80 of a visible line (60_exceptions.md R351, R370). -/
theorem State.tick_renders (on : s.ppu.lcdOn = true) (visible : s.ppu.ly.toNat < 144) (dot : s.ppu.dot = 79) :
    s.tick.ppu = { (s.renderLine s.ppu.ly.toNat).ppu with
      dot := 80, mode := .transfer, statLine := s.tick.ppu.statLine } := by
  have position : s.ppu.advanceDot = { s.ppu with dot := 80 } := by
    rw [Ppu.advanceDot, if_neg (by omega), dot]
  have events : State.ppuEvents { s with ppu := s.ppu.advanceDot } =
      State.renderLine { s with ppu := { s.ppu with dot := 80, mode := .transfer } } s.ppu.ly.toNat := by
    rw [position, State.ppuEvents]
    exact if_pos visible
  rw [State.tick_ppu_eq, State.ppuTick, if_pos on, State.updateStat_ppu, events]
  rfl

/-- The start of a frame resets the window line (60_exceptions.md R350). -/
theorem Ppu.advanceDot_windowLine (p : Ppu) :
    p.advanceDot.windowLine = if p.ly = 153#8 ∧ p.dot = 455 then 0 else p.windowLine := by
  have hl := p.ly.isLt
  have start : BitVec.ofNat 8 ((p.ly.toNat + 1) % 154) = 0#8 ↔ p.ly = 153#8 := by
    rw [← BitVec.toNat_inj, ← BitVec.toNat_inj, BitVec.toNat_ofNat]
    simp only [BitVec.toNat_ofNat]
    omega
  unfold Ppu.advanceDot
  by_cases last : p.dot + 1 = 456
  · rw [if_pos last]
    exact if_congr (start.trans ⟨fun h => ⟨h, by omega⟩, And.left⟩) rfl rfl
  · rw [if_neg last, if_neg (by omega)]

/-- Any other T-cycle draws nothing. -/
theorem State.tick_draws_nothing
    (h : ¬(s.ppu.lcdOn = true ∧ s.ppu.ly.toNat < 144 ∧ s.ppu.dot = 79)) :
    s.tick.ppu.fbIndex = s.ppu.fbIndex ∧ s.tick.ppu.fbShade = s.ppu.fbShade ∧
      s.tick.ppu.lineSprites = s.ppu.lineSprites ∧
      s.tick.ppu.windowLine =
        if s.ppu.lcdOn = true ∧ s.ppu.ly = 153#8 ∧ s.ppu.dot = 455 then 0 else s.ppu.windowLine := by
  cases on : s.ppu.lcdOn with
  | false => simp [(State.tick_off on).1]
  | true =>
    have quiet : s.ppu.advanceDot.dot = 80 → ¬s.ppu.advanceDot.ly.toNat < 144 := by
      intro dot visible
      unfold Ppu.advanceDot at dot visible
      split at dot
      · cases dot
      · rw [if_neg ‹_›] at visible
        exact h ⟨on, visible, Nat.succ.inj dot⟩
    obtain ⟨index, shade, sprites, window⟩ :=
      State.ppuEvents_quiet { s.timerTick with ppu := s.ppu.advanceDot } quiet
    obtain ⟨sprites', index', shade'⟩ := s.ppu.advanceDot_rest
    rw [(State.tick_on on).1]
    refine ⟨index.trans index', shade.trans shade', sprites.trans sprites', window.trans ?_⟩
    simpa using s.ppu.advanceDot_windowLine

/-! ## The background and the window -/

/-- A colour index is its two bits. -/
theorem toNat_two_bits (a b : Bool) : (bit a ++ bit b : BitVec 2).toNat = 2 * a.toNat + b.toNat := by
  cases a <;> cases b <;> rfl

/-- The tile of the background and the window, on natural numbers (60_exceptions.md R373). -/
theorem Ppu.bgwTile_eq (p : Ppu) (t : Byte) :
    p.bgwTile t =
      if p.lcdc.getLsbD 4 then 0x8000 + 16 * t.toNat
      else if t.toNat < 128 then 0x9000 + 16 * t.toNat else 0x8000 + 16 * t.toNat := by
  have ht := t.isLt
  unfold Ppu.bgwTile Ppu.lcdcBit
  refine if_congr Iff.rfl rfl ?_
  rw [BitVec.toInt_eq_toNat_cond]
  split_ifs <;> omega

/-- The pixel of a layer, down to the two bits of VRAM (60_exceptions.md R373). -/
theorem State.layerPixel_toNat (s : State) (base x y : Nat) :
    let addr := s.ppu.bgwTile (s.vramAt (base + 32 * (y / 8) + x / 8)) + 2 * (y % 8)
    (s.layerPixel base x y).toNat =
      2 * ((s.vramAt (addr + 1)).getLsbD (7 - x % 8)).toNat + ((s.vramAt addr).getLsbD (7 - x % 8)).toNat :=
  toNat_two_bits _ _

theorem State.windowCovers_iff (s : State) (x ly : Nat) :
    s.windowCovers x ly = true ↔
      s.ppu.lcdc.getLsbD 5 = true ∧ s.ppu.lcdc.getLsbD 0 = true ∧ s.ppu.wy.toNat ≤ ly ∧
        (s.ppu.wx.toNat : Int) - 7 ≤ x := by
  simp only [State.windowCovers, Ppu.lcdcBit, Bool.and_eq_true, decide_eq_true_eq, and_assoc]
  have reach : s.ppu.wx.toNat ≤ x + 7 ↔ (s.ppu.wx.toNat : Int) - 7 ≤ x := by omega
  rw [reach]

/-! ## Sprites -/

/-- `p` is left of `q`, or at the same X with an index that is not greater (60_exceptions.md R375). -/
def SpritePixel.Leads (p q : SpritePixel) : Prop := p.x < q.x ∨ (p.x = q.x ∧ p.k ≤ q.k)

theorem SpritePixel.Leads.trans {p q r : SpritePixel} (h : p.Leads q) (h' : q.Leads r) : p.Leads r := by
  unfold SpritePixel.Leads at *
  omega

/-- `r` is the first of the pixels in `P`, and none if there is none. -/
structure FirstOf (P : SpritePixel → Prop) (r : Option SpritePixel) : Prop where
  none_iff : r = none ↔ ∀ q, ¬P q
  some_leads : ∀ p, r = some p → P p ∧ ∀ q, P q → p.Leads q

theorem FirstOf.none {P : SpritePixel → Prop} (h : ∀ q, ¬P q) : FirstOf P none :=
  ⟨⟨fun _ => h, fun _ => rfl⟩, nofun⟩

theorem FirstOf.some {P : SpritePixel → Prop} {p : SpritePixel} (h : P p) (leads : ∀ q, P q → p.Leads q) :
    FirstOf P (some p) :=
  ⟨⟨nofun, fun empty => absurd h (empty p)⟩, fun _ hq => Option.some.inj hq ▸ ⟨h, leads⟩⟩

theorem FirstOf.congr {P Q : SpritePixel → Prop} {r : Option SpritePixel} (h : FirstOf P r)
    (same : ∀ q, P q ↔ Q q) : FirstOf Q r :=
  (funext fun _ => propext (same _) : P = Q) ▸ h

theorem SpritePixel.beats_leads {p q : SpritePixel} :
    (p.beats q = true → p.Leads q) ∧ (p.beats q = false → q.Leads p) := by
  simp only [SpritePixel.beats, SpritePixel.Leads, Bool.or_eq_true, Bool.and_eq_true, decide_eq_true_eq,
    Bool.or_eq_false_iff, Bool.and_eq_false_imp, decide_eq_false_iff_not]
  omega

/-- The first of some pixels and one more is the better of the two. -/
theorem bestSprite_firstOf {P : SpritePixel → Prop} {best : Option SpritePixel} (h : FirstOf P best)
    (new : Option SpritePixel) : FirstOf (fun q => P q ∨ new = some q) (bestSprite best new) := by
  cases best with
  | none =>
    have empty := h.none_iff.1 rfl
    cases new with
    | none => exact .none fun q => not_or.2 ⟨empty q, nofun⟩
    | some n =>
      refine .some (.inr rfl) fun q hq => ?_
      cases hq.resolve_left (empty q)
      exact .inr ⟨rfl, Nat.le_refl _⟩
  | some b =>
    obtain ⟨hb, leads⟩ := h.some_leads b rfl
    cases new with
    | none => exact .some (.inl hb) fun q hq => leads q (hq.resolve_right nofun)
    | some n =>
      obtain ⟨wins, loses⟩ := SpritePixel.beats_leads (p := n) (q := b)
      unfold bestSprite
      dsimp only
      split
      · rename_i beats
        refine .some (.inr rfl) fun q hq => ?_
        obtain old | new := hq
        · exact (wins beats).trans (leads q old)
        · cases new
          exact .inr ⟨rfl, Nat.le_refl _⟩
      · rename_i beats
        refine .some (.inl hb) fun q hq => ?_
        obtain old | new := hq
        · exact leads q old
        · cases new
          exact loses (eq_false_of_ne_true beats)

theorem foldl_firstOf (f : Nat → Option SpritePixel) (sprites : List Nat) {P : SpritePixel → Prop}
    {best : Option SpritePixel} (h : FirstOf P best) :
    FirstOf (fun q => P q ∨ ∃ k ∈ sprites, f k = some q)
      (sprites.foldl (fun best k => bestSprite best (f k)) best) := by
  induction sprites generalizing P best with
  | nil => exact h.congr fun q => by simp
  | cons k sprites ih => exact (ih (bestSprite_firstOf h (f k))).congr fun q => by simp [or_assoc]

/-- With sprites on, the winner is the first of the drawn pixels (60_exceptions.md R375). -/
theorem State.spritePixel_firstOf (s : State) (sprites : List Nat) (x ly : Nat)
    (on : s.ppu.lcdc.getLsbD 1 = true) :
    FirstOf (fun q => ∃ k ∈ sprites, s.spriteAt x ly k = some q) (s.spritePixel sprites x ly) := by
  have fold := foldl_firstOf (s.spriteAt x ly) sprites (P := fun _ => False) (.none fun _ => id)
  rw [State.spritePixel, if_pos (show s.ppu.lcdcBit 1 = true from on)]
  exact fold.congr fun q => or_iff_right id

/-- The tile of a sprite: its own, or for height 16 the even or odd tile of its pair by the row
(60_exceptions.md R375). -/
def spriteTile (tile : Byte) (h row : Nat) : Byte :=
  if h = 16 then (if row < 8 then tile &&& 0xFE#8 else tile ||| 0x01#8) else tile

/-- The colour index of sprite `k` at (x, ly), where it has one (60_exceptions.md R375). -/
def State.spriteColour (s : State) (x ly k : Nat) : BitVec 2 :=
  let sy := (s.oamByte k 0).toNat
  let sx := (s.oamByte k 1).toNat
  let tile := s.oamByte k 2
  let attr := s.oamByte k 3
  let h := s.ppu.objHeight
  let col := if attr.getLsbD 5 then 7 - (x + 8 - sx) else x + 8 - sx
  let row := if attr.getLsbD 6 then h - 1 - (ly + 16 - sy) else ly + 16 - sy
  s.tilePixel (0x8000 + 16 * (spriteTile tile h row).toNat) col (if h = 16 then row % 8 else row)

/-- Sprite `k` has a pixel where its X range includes `x` and its colour index is not 0. -/
theorem State.spriteAt_eq_some_iff (s : State) (x ly k : Nat) (q : SpritePixel) :
    s.spriteAt x ly k = some q ↔
      ((s.oam.read (4 * k + 1)).toNat : Int) - 8 ≤ x ∧ x < (s.oam.read (4 * k + 1)).toNat ∧
        s.spriteColour x ly k ≠ 0#2 ∧ q.x = (s.oam.read (4 * k + 1)).toNat ∧ q.k = k ∧
        q.attr = s.oam.read (4 * k + 3) ∧ q.p = s.spriteColour x ly k := by
  have body : s.spriteAt x ly k =
      if (s.oamByte k 1).toNat ≤ x + 8 ∧ x < (s.oamByte k 1).toNat then
        if s.spriteColour x ly k = 0#2 then none
        else some {
          x := (s.oamByte k 1).toNat, k, p := s.spriteColour x ly k, attr := s.oamByte k 3 }
      else none := rfl
  have reach : (s.oam.read (4 * k + 1)).toNat ≤ x + 8 ↔ ((s.oam.read (4 * k + 1)).toNat : Int) - 8 ≤ x := by
    omega
  rw [body, State.oamByte, State.oamByte, ← reach, ← and_assoc]
  obtain ⟨qx, qk, qp, qattr⟩ := q
  split_ifs with covered clear
  · simp [clear]
  · constructor
    · rintro ⟨⟩
      exact ⟨covered, clear, rfl, rfl, rfl, rfl⟩
    · rintro ⟨-, -, hx, hk, hattr, hp⟩
      rw [Option.some.injEq, SpritePixel.mk.injEq]
      exact ⟨hx.symm, hk.symm, hp.symm, hattr.symm⟩
  · simp [covered]

theorem spriteTile_toNat (tile : Byte) {h row : Nat} (height : h = 8 ∨ h = 16) (hr : row < h) :
    (spriteTile tile h row).toNat = if h = 8 then tile.toNat else 2 * (tile.toNat / 2) + row / 8 := by
  have pair : ∀ t : Byte, (t &&& 0xFE#8).toNat = 2 * (t.toNat / 2) ∧
      (t ||| 0x01#8).toNat = 2 * (t.toNat / 2) + 1 := by decide +kernel
  obtain ⟨even, odd⟩ := pair tile
  unfold spriteTile
  obtain rfl | rfl := height
  · rfl
  · rw [if_pos rfl, if_neg (by decide : ¬16 = 8)]
    split
    · rw [even]
      omega
    · rw [odd]
      omega

/-- The row of a sprite on its line lies in the sprite, flipped or not. -/
theorem spriteRow_lt {h sy ly : Nat} (flip : Bool) (above : (sy : Int) - 16 ≤ ly)
    (below : (ly : Int) < sy - 16 + h) :
    (if flip then h - 1 - (ly + 16 - sy) else ly + 16 - sy) < h := by
  split <;> omega

theorem spriteTileRow {h row : Nat} (height : h = 8 ∨ h = 16) (hr : row < h) :
    (if h = 16 then row % 8 else row) = row % 8 := by
  split
  · rfl
  · omega

/-- The shade of a colour index in a palette, on natural numbers (10_state.md R47). -/
theorem shade_eq (palette : Byte) (i : BitVec 2) :
    shade palette i = BitVec.ofNat 2 (palette.toNat / 4 ^ i.toNat) := by
  have power : 2 ^ (2 * i.toNat) = 4 ^ i.toNat := by rw [Nat.pow_mul]
  apply BitVec.eq_of_toNat_eq
  simp [shade, Nat.shiftRight_eq_div_pow, power]

end

end Sys2Proof.Machine

open Sys2Proof.Machine in
/-- Settles O47: the position moves one dot in each T-cycle, and the event is at one position. -/
theorem vblankTiming : Obligations.VblankTiming := by
  have reset : State.reset.InFrame := ⟨by decide, by decide, by decide⟩
  have start : State.reset.ppu.position = 0 := rfl
  refine ⟨fun s n on ly dot => ?_, ?_, ?_⟩
  · have h : s.InFrame := ⟨on, ly, dot⟩
    exact ⟨State.advance_lcdc n s, (h.advance n).2, h.vblankWithin_iff n, h.vblank_event⟩
  · rw [Bool.eq_false_iff, Ne, reset.vblankWithin_iff, start]
    rintro ⟨k, -, hk, at_k⟩
    omega
  · rw [reset.vblankWithin_iff, start]
    exact ⟨65664, by decide, Nat.le_refl _, by decide⟩

open Sys2Proof.Machine in
/-- Settles O48: the dot ends with the evaluation of the line. -/
theorem statRisingEdge : Obligations.StatRisingEdge := by
  refine fun s => ⟨fun on => ⟨?_, State.tick_line_stat on⟩, fun off => ?_⟩
  · have on' : s.tick.ppu.lcdc.getLsbD 7 = true := by rw [s.tick_lcdc]; exact on
    rw [State.tick_statLine on, Ppu.statValue_iff]
    exact and_iff_right on'
  · obtain ⟨ppu, irq⟩ := State.tick_off off
    refine ⟨ppu, ?_⟩
    rw [irq, s.timerTick_line (by decide)]
    simp

open Sys2Proof.Machine in
/-- Settles O49: each write is the register's own, and the evaluation follows it. -/
theorem lcdSwitch : Obligations.LcdSwitch := by
  refine ⟨fun s v idle => ⟨?_, ?_, ?_⟩, Ppu.statValue_iff⟩
  · dsimp only
    rw [← Ppu.writeLcdc_eq, ← s.updateStat_eq (s.ppu.writeLcdc_statLine v)]
    exact State.memWrite_addr idle .lcdc v
  · have write := (State.memWrite_addr idle .stat v).trans (s.updateStat_eq (r := s.ppu.writeStat v) rfl)
    rwa [Ppu.writeStat_eq] at write
  · exact (State.memWrite_addr idle .lyc v).trans (s.updateStat_eq (r := s.ppu.writeLyc v) rfl)

open Sys2Proof.Machine in
/-- Settles O50: the first ten of the sprites on the line, which the filter leaves in rising order. -/
theorem spriteSelection : Obligations.SpriteSelection := by
  intro s ly
  have rising : ((List.range 40).filter (s.spriteOnLine ly)).Pairwise (· < ·) := List.pairwise_lt_range.filter _
  refine ⟨s.selectSprites_le ly, rising.take, fun k hk => ?_, fun k hk covers left => ?_⟩
  · obtain ⟨small, on⟩ := State.mem_selectSprites hk
    exact ⟨small, (s.spriteOnLine_iff ly k).1 on⟩
  · exact take_of_pairwise_lt rising
      (List.mem_filter.2 ⟨List.mem_range.2 hk, (s.spriteOnLine_iff ly k).2 covers⟩) left

open Sys2Proof.Machine in
/-- Settles O51: the T-cycle to dot 80 renders and no other does; a rendered line is one row of the planes. -/
theorem renderLine : Obligations.RenderLine := by
  refine ⟨fun s =>
      ⟨fun ⟨on, visible, dot⟩ => State.tick_renders on visible dot, State.tick_draws_nothing⟩,
    fun s ly => ⟨fun x hx => ?row, fun p hp => ?others, fun covers => ?drawn, fun outside => ?undrawn, rfl⟩⟩
  case row =>
    rw [State.renderLine_planes, if_pos (by omega), Nat.add_sub_cancel_left]
    rfl
  case others =>
    have planes := s.renderLine_planes ly p
    rw [if_neg (by omega)] at planes
    exact Prod.mk.inj planes
  case drawn => exact if_pos ((s.drewWindow_iff ly).2 covers)
  case undrawn =>
    refine if_neg fun drew => ?_
    obtain ⟨x, hx, covers⟩ := (s.drewWindow_iff ly).1 drew
    rw [outside x hx] at covers
    cases covers

open Sys2Proof Sys2Proof.Machine in
/-- Settles O52: the window covers what its registers say, and a layer's pixel is two bits of VRAM. -/
theorem backgroundAndWindow : Obligations.BackgroundAndWindow := by
  intro s x ly _ _
  have layer := s.layerPixel_toNat
  simp only [Ppu.bgwTile_eq] at layer
  refine ⟨s.windowCovers_iff x ly, fun covers => ?window, fun outside on => ?background, fun off => ?off⟩
  case window =>
    rw [State.bgOrWindow, if_pos ((s.windowCovers_iff x ly).2 covers)]
    exact layer _ _ _
  case background =>
    rw [State.bgOrWindow, if_neg (mt (s.windowCovers_iff x ly).1 outside), State.bgIndex]
    exact (congrArg BitVec.toNat (if_pos on)).trans (layer _ _ _)
  case off =>
    have outside : ¬s.windowCovers x ly = true := by
      rw [State.windowCovers_iff]
      rintro ⟨-, on, -⟩
      rw [off] at on
      cases on
    rw [State.bgOrWindow, if_neg outside, State.bgIndex]
    exact if_neg (ne_true_of_eq_false off)

open Sys2Proof Sys2Proof.Machine in
/-- Settles O53: the fold keeps the first of the pixels it has seen; a sprite's pixel is two bits of VRAM; and
the mix chooses by bit 7. -/
theorem spritePriority : Obligations.SpritePriority := by
  refine ⟨fun s sprites x ly => ⟨fun off => ?off, fun on => ?on⟩, fun s x ly k q drawn => ?drawn,
    fun s x ly k => ?pixel, fun p b q => ?mix⟩
  case off => exact if_neg (ne_true_of_eq_false off)
  case on =>
    have first := s.spritePixel_firstOf sprites x ly on
    exact ⟨first.none_iff, first.some_leads⟩
  case drawn =>
    obtain ⟨left, right, visible, hx, hk, hattr, hp⟩ := (s.spriteAt_eq_some_iff x ly k q).1 drawn
    exact ⟨hk, hx, hattr, hp ▸ visible, hx ▸ left, hx ▸ right⟩
  case pixel =>
    intro h sy sx tile attr col row paired lo hi pixel above below q
    have height : h = 8 ∨ h = 16 := (ite_eq_or_eq _ 16 8).symm
    have inside : row < h := spriteRow_lt _ above below
    have tileEq := spriteTile_toNat (s.oam.read (4 * k + 2)) height inside
    have colour : (s.spriteColour x ly k).toNat = pixel := by
      show (s.tilePixel (0x8000 + 16 * (spriteTile (s.oam.read (4 * k + 2)) h row).toNat) col
        (if h = 16 then row % 8 else row)).toNat = _
      rw [spriteTileRow height inside, tileEq]
      exact State.tilePixel_toNat ..
    have visible : s.spriteColour x ly k ≠ 0#2 ↔ pixel ≠ 0 := by
      rw [← colour]
      exact not_congr BitVec.toNat_inj.symm
    have same : q.p = s.spriteColour x ly k ↔ q.p.toNat = pixel := by
      rw [← colour, BitVec.toNat_inj]
    rw [State.spriteAt_eq_some_iff, visible, same]
  case mix =>
    simp only [← shade_eq]
    refine ⟨rfl, fun behind => ?_, fun front => ?_⟩ <;> rw [Ppu.mix]
    · exact if_pos (by simpa using behind)
    · exact if_neg (by simpa using front)

end

/-! SUPPORT and proofs. The statement of 60_exceptions.md on the end of a frame: what a step costs, what it
leaves of the PPU's position, and the loop of `step_frame()`. -/

section

namespace Sys2Proof.Machine

/-! ## The cost of a step -/

/-- The costs of 70_reset_and_hazards.md R420. -/
def isCost (n : Nat) : Bool := [4, 8, 12, 16, 20, 24].contains n

theorem isCost_iff (n : Nat) : isCost n = true ↔ n ∈ [4, 8, 12, 16, 20, 24] := by
  simp [isCost]

/-- The meaning answers a state that holds a cost. -/
abbrev Charges (r : Result) : Prop := Answers (fun t => isCost t.cpu.stepCost = true) r

section
variable {s : State}

theorem cbTable_charges {op2 : Byte} : Charges (cbTable op2 s) := by
  obtain ⟨t, next, a, f, b, c, d, e, h, l, n, cost, cpu⟩ := cbTable_sameControl op2 s
  refine ⟨t, next, ?_⟩
  show isCost t.cpu.stepCost = true
  rw [cpu, isCost_iff]
  simp only [List.mem_cons, List.not_mem_nil, or_false] at cost ⊢
  omega

theorem callIf_charges {cc : Cond} {a : Word} : Charges (callIf cc a s) :=
  ⟨_, callIf_eq cc a s, by split <;> rfl⟩

theorem retIf_charges {cc : Cond} : Charges (retIf cc s) := ⟨_, retIf_eq cc s, by split <;> rfl⟩

theorem jumpIf_charges {cc : Cond} {a : Word} : Charges (jumpIf cc a s) :=
  ⟨_, jumpIf_eq cc a s, by split <;> rfl⟩

theorem jumpRelativeIf_charges {cc : Cond} {e : Byte} : Charges (jumpRelativeIf cc e s) :=
  ⟨_, jumpRelativeIf_eq cc e s, by split <;> rfl⟩

theorem haltCpu_charges : Charges (haltCpu s) := ⟨_, haltCpu_eq s, by split <;> rfl⟩

/-- Every instruction but the unused opcodes has a cost of R420. -/
theorem exec_charges {i : Instr} (hi : i ∉ illegalForms.map Prod.snd) : Charges (exec i s) := by
  cases i with
  | illegal_D3 | illegal_DB | illegal_DD | illegal_E3 | illegal_E4 | illegal_EB | illegal_EC | illegal_ED
  | illegal_F4 | illegal_FC | illegal_FD => exact absurd (by decide) hi
  | prefix_CB _ => exact cbTable_charges
  | call_NZ_a16 _ | call_Z_a16 _ | call_NC_a16 _ | call_C_a16 _ => exact callIf_charges
  | ret_NZ | ret_Z | ret_NC | ret_C => exact retIf_charges
  | jp_NZ_a16 _ | jp_Z_a16 _ | jp_NC_a16 _ | jp_C_a16 _ => exact jumpIf_charges
  | jr_NZ_e8 _ | jr_Z_e8 _ | jr_NC_e8 _ | jr_C_e8 _ => exact jumpRelativeIf_charges
  | halt => exact haltCpu_charges
  | _ => exact ⟨_, rfl, rfl⟩

/-- The step's result, if it goes on, is the cost that its state holds. -/
def CostsWhatItSays (p : State × StepResult) : Prop :=
  ∀ n, p.2 = .ok n → isCost n = true ∧ p.1.cpu.stepCost = n

theorem State.runInstr_costs (s : State) : CostsWhatItSays s.runInstr := by
  intro n ok
  by_cases hi : s.fetchInstr.1 ∈ illegalForms.map Prod.snd
  · obtain ⟨p, hp, unused⟩ := List.mem_map.1 hi
    rw [State.runInstr_illegal hp (Prod.ext unused.symm rfl)] at ok
    cases ok
  · obtain ⟨t, next, cost⟩ := exec_charges (s := s.fetchInstr.2) hi
    cases fault : t.cpu.fault with
    | some f =>
      rw [State.runInstr_fault next fault] at ok
      cases ok
    | none =>
      rw [State.runInstr_next next fault] at ok ⊢
      cases ok
      refine ⟨cost, ?_⟩
      unfold State.applyEi
      split <;> rfl

/-- Every CPU step that goes on takes one of the costs of R420, and latches it. -/
theorem State.cpuStep_costs (s : State) : CostsWhatItSays s.cpuStep := by
  have idle (u : State) : CostsWhatItSays u.idle := fun n ok => by
    cases ok
    exact ⟨rfl, rfl⟩
  unfold State.cpuStep
  split
  · exact nofun
  split
  · exact idle s
  unfold State.haltedOrAwake
  split
  · exact idle _
  unfold State.serviceOrRun
  split
  · intro n ok
    cases ok
    exact ⟨rfl, rfl⟩
  · exact State.runInstr_costs _

/-! ## The position of the PPU in a CPU step -/

/-- `t` has the LCDC and the position of `s`. -/
structure State.SamePosition (s t : State) : Prop where
  lcdc : t.ppu.lcdc = s.ppu.lcdc
  ly : t.ppu.ly = s.ppu.ly
  dot : t.ppu.dot = s.ppu.dot

/-- `t` has the position of `s`, or the LCD was off in one of the two. -/
def State.HoldsPosition (s t : State) : Prop :=
  s.ppu.lcdOn = true → t.ppu.lcdOn = true → t.ppu.ly = s.ppu.ly ∧ t.ppu.dot = s.ppu.dot

variable {t u : State}

theorem State.SamePosition.holds (h : s.SamePosition t) : s.HoldsPosition t := fun _ _ => ⟨h.ly, h.dot⟩

theorem State.SamePosition.thenHolds (h : s.SamePosition t) (h' : t.HoldsPosition u) : s.HoldsPosition u := by
  intro before after
  rw [Ppu.lcdOn, ← h.lcdc] at before
  rw [← h.ly, ← h.dot]
  exact h' before after

theorem State.HoldsPosition.thenSame (h : s.HoldsPosition t) (h' : t.SamePosition u) : s.HoldsPosition u := by
  intro before after
  rw [Ppu.lcdOn, h'.lcdc] at after
  rw [h'.ly, h'.dot]
  exact h before after

/-- A register write that is not LCDC's leaves LCDC and the position. -/
theorem State.writeIo_samePosition (s : State) {r : IoReg} (hr : r ≠ .lcdc) (v : Byte) :
    s.SamePosition (s.writeIo r v) := by
  cases r with
  | lcdc => exact absurd rfl hr
  | p1 | stat | lyc =>
    constructor <;> simp [State.writeIo, Ppu.latchStat, Ppu.writeStat, Ppu.writeLyc, Ppu.compareLy]
  | _ => exact ⟨rfl, rfl, rfl⟩

/-- A store elsewhere than at LCDC leaves it and the position (20_memory.md R71). -/
theorem State.memWrite_samePosition (s : State) {a : Word} (ha : a ≠ 0xFF40#16) (v : Byte) :
    s.SamePosition (s.memWrite a v) := by
  have same : s.SamePosition s := ⟨rfl, rfl, rfl⟩
  apply State.memWrite_ind _ _ _ same
  have spec := decodeAddr_spec a
  unfold State.busWrite
  cases hd : decodeAddr a with rw [hd] at spec
  | cartRam off => dsimp only; split <;> exact ⟨rfl, rfl, rfl⟩
  | io r =>
    cases r with
    | none => exact same
    | some r =>
      refine s.writeIo_samePosition (fun hr => ha ?_) v
      obtain ⟨-, -, reg⟩ := spec
      rw [hr] at reg
      exact BitVec.eq_of_toNat_eq (ioReg?_eq_some reg.symm)
  | _ => exact ⟨rfl, rfl, rfl⟩

/-- A write of LCDC that leaves the LCD on leaves the position (60_exceptions.md R360). -/
theorem State.writeIo_lcdc_holds (s : State) (v : Byte) : s.HoldsPosition (s.writeIo .lcdc v) := by
  intro before after
  have ppu : (s.writeIo .lcdc v).ppu = (s.ppu.writeLcdc v).latchStat := by simp [State.writeIo]
  rw [ppu] at after ⊢
  have on : v.getLsbD 7 = true := by
    rw [← s.ppu.writeLcdc_lcdc v]
    exact after
  have kept : s.ppu.writeLcdc v = { s.ppu with lcdc := v } := by
    rw [Ppu.writeLcdc_eq, if_neg (by simp [on]), if_neg]
    rintro ⟨off, -⟩
    exact Bool.false_ne_true (off.symm.trans before)
  rw [kept]
  exact ⟨rfl, rfl⟩

theorem State.memWrite_holds (s : State) (a : Word) (v : Byte) : s.HoldsPosition (s.memWrite a v) := by
  by_cases ha : a = 0xFF40#16
  · subst ha
    apply State.memWrite_ind _ _ _ (State.SamePosition.holds ⟨rfl, rfl, rfl⟩)
    rw [show s.busWrite 0xFF40#16 v = s.writeIo .lcdc v from s.busWrite_addr .lcdc v]
    exact s.writeIo_lcdc_holds v
  · exact (s.memWrite_samePosition ha v).holds

/-- Of an instruction's two stores at most one is to LCDC, so none switches the LCD off and on again. -/
theorem State.StoresTo.holdsPosition {as : List Word} (h : s.StoresTo as t) : s.HoldsPosition t := by
  have cpu (u : State) (c : Cpu) : u.SamePosition { u with cpu := c } := ⟨rfl, rfl, rfl⟩
  cases h with
  | none c => exact (cpu s c).holds
  | one a v c => exact (s.memWrite_holds a v).thenSame (cpu _ c)
  | two a b v w c adjacent =>
    refine State.HoldsPosition.thenSame ?_ (cpu _ c)
    by_cases ha : a = 0xFF40#16
    · have hb : b ≠ 0xFF40#16 := by
        subst ha
        obtain rfl | rfl := adjacent <;> decide
      exact (s.memWrite_holds a v).thenSame ((s.memWrite a v).memWrite_samePosition hb w)
    · exact (s.memWrite_samePosition ha v).thenHolds ((s.memWrite a v).memWrite_holds b w)

theorem exec_holdsPosition {i : Instr} (h : exec i s = .next t) : s.HoldsPosition t := by
  by_cases stop : ∀ n, i ≠ .stop n
  · exact (storesTo_of_exec stop h).holdsPosition
  · obtain ⟨n, rfl⟩ : ∃ n, i = .stop n := by simpa using stop
    cases h
    exact State.SamePosition.holds ⟨rfl, rfl, rfl⟩

theorem State.runInstr_holdsPosition (s : State) : s.HoldsPosition s.runInstr.1 := by
  obtain ⟨pc, bug, fetched⟩ := s.fetchInstr_snd
  obtain ⟨t, next⟩ := exec_next s.fetchInstr.1 s.fetchInstr.2
  have fetch : s.SamePosition s.fetchInstr.2 := by
    rw [fetched]
    exact ⟨rfl, rfl, rfl⟩
  have executed := fetch.thenHolds (exec_holdsPosition next)
  cases fault : t.cpu.fault with
  | some f => rwa [State.runInstr_fault next fault]
  | none =>
    rw [State.runInstr_next next fault]
    refine executed.thenSame ?_
    unfold State.applyEi
    split <;> exact ⟨rfl, rfl, rfl⟩

theorem State.serviceOrRun_holdsPosition (s : State) : s.HoldsPosition s.serviceOrRun.1 := by
  unfold State.serviceOrRun
  split
  · have acknowledged : s.SamePosition s.acknowledged := ⟨rfl, rfl, rfl⟩
    exact acknowledged.thenHolds ((State.storesTo_push16 _ _).thenCpu rfl).holdsPosition
  · exact s.runInstr_holdsPosition

/-- A CPU step before and after which the LCD is on leaves the position. -/
theorem State.cpuStep_holdsPosition (s : State) : s.HoldsPosition s.cpuStep.1 := by
  have same (c : Cpu) : s.SamePosition { s with cpu := c } := ⟨rfl, rfl, rfl⟩
  unfold State.cpuStep
  split
  · exact (same _).holds
  split
  · exact (same _).holds
  unfold State.haltedOrAwake
  split
  · exact (same _).holds
  exact (same { s.cpu with stopped := false, halted := false }).thenHolds (State.serviceOrRun_holdsPosition _)

end

/-! ## The loop of `step_frame()` -/

/-- The loop came to an end of its own: neither out of its bound nor refused. -/
def FrameEnded (r : State × FrameResult) : Prop := r.2 ≠ .unfinished ∧ ∀ x, r.2 ≠ .refused x

/-- No CPU step is refused (60_exceptions.md R310). -/
theorem State.cpuStep_ne_refused (s : State) (r : Refusal) : s.cpuStep.2 ≠ .refused r := by
  intro refused
  cases fault : s.cpu.fault with
  | some f =>
    rw [State.cpuStep_faulted fault] at refused
    cases refused
  | none =>
    have answer := State.cpuStep_answer fault
    rw [refused] at answer
    cases answer

/-- One round of the loop ends it, or runs at least 4 T-cycles without a VBlank and goes on from there, with
the LCD on if a frame's worth of T-cycles has run (60_exceptions.md R397). -/
theorem State.frameLoop_round (n total : Nat) (s : State) :
    FrameEnded (State.frameLoop (n + 1) total s) ∨
      ∃ t, 4 ≤ t ∧ State.vblankWithin t s.cpuStep.1 = false ∧
        ((State.advance t s.cpuStep.1).ppu.lcdOn = true ∨ total + t < 70224) ∧
        State.frameLoop (n + 1) total s = State.frameLoop n (total + t) (State.advance t s.cpuStep.1) := by
  rcases answer : s.cpuStep with ⟨u, t | f | r⟩
  case ok =>
    obtain ⟨cost, -⟩ := s.cpuStep_costs t (congrArg Prod.snd answer)
    rw [isCost_iff] at cost
    have whole : s.machineStep = (State.advance t u, .ok t) := by rw [State.machineStep, answer]
    rw [State.frameLoop, whole]
    dsimp only
    rw [answer]
    dsimp only
    split
    · exact .inl ⟨nofun, nofun⟩
    · rename_i goesOn
      simp only [Bool.or_eq_true, Bool.and_eq_true, Bool.not_eq_true', decide_eq_true_eq, not_or,
        not_and] at goesOn
      obtain ⟨quiet, lit⟩ := goesOn
      refine .inr ⟨t, ?_, eq_false_of_ne_true quiet, ?_, rfl⟩
      · simp only [List.mem_cons, List.not_mem_nil, or_false] at cost
        omega
      · cases on : (State.advance t u).ppu.lcdOn with
        | true => exact .inl rfl
        | false => exact .inr (Nat.lt_of_not_le (lit on))
  case fault =>
    rw [State.frameLoop, (step_of_fault answer).1]
    exact .inl ⟨nofun, nofun⟩
  case refused => exact absurd (congrArg Prod.snd answer) (s.cpuStep_ne_refused r)

/-- The T-cycles from a position to the next VBlank. -/
theorem exists_vblank {p : Nat} (hp : p < 70224) : ∃ k, 1 ≤ k ∧ k ≤ 70224 ∧ (p + k) % 70224 = 65664 := by
  by_cases h : p < 65664
  · exact ⟨65664 - p, by omega, by omega, by omega⟩
  · exact ⟨65664 + 70224 - p, by omega, by omega, by omega⟩

/-- Once a frame's worth of T-cycles has run, the LCD is on or the loop ends; while it stays on the position
moves on to the VBlank, 4 dots at least in each step. -/
theorem State.frameLoop_ends_late {n total k : Nat} {s : State} (h : s.Inv) (on : s.ppu.lcdOn = true)
    (late : 70224 ≤ total) (next : (s.ppu.position + k) % 70224 = 65664) (hk : 1 ≤ k) (enough : k ≤ 4 * n) :
    FrameEnded (State.frameLoop n total s) := by
  induction n generalizing s total k with
  | zero => omega
  | succ n ih =>
    obtain ended | ⟨t, ht, quiet, lit, rest⟩ := State.frameLoop_round n total s
    · exact ended
    have stepped := State.cpuStep_inv h
    have on' := lit.resolve_right (by omega)
    have lit' : s.cpuStep.1.ppu.lcdOn = true := by
      rw [Ppu.lcdOn, ← State.advance_lcdc t]
      exact on'
    have inFrame : s.cpuStep.1.InFrame := ⟨lit', stepped.ppu.ly_lt, stepped.ppu.dot_lt⟩
    obtain ⟨ly, dot⟩ := s.cpuStep_holdsPosition on lit'
    have held : s.cpuStep.1.ppu.position = s.ppu.position := by rw [Ppu.position, ly, dot, Ppu.position]
    have before : t < k := by
      by_contra passed
      have hit := (inFrame.vblankWithin_iff t).2 ⟨k, hk, by omega, by rw [held, next]⟩
      exact Bool.false_ne_true (quiet.symm.trans hit)
    rw [rest]
    refine ih (k := k - t) (State.advance_inv t stepped) on' (by omega) ?_ (by omega) (by omega)
    rw [(inFrame.advance t).2, held, Nat.mod_add_mod, Nat.add_assoc, Nat.add_sub_cancel' before.le, next]

/-- Until then, the loop runs at least 4 T-cycles in each step. -/
theorem State.frameLoop_ends {n total : Nat} {s : State} (h : s.Inv) (early : total < 70224)
    (enough : 2 * 70224 ≤ total + 4 * n) : FrameEnded (State.frameLoop n total s) := by
  induction n generalizing s total with
  | zero => omega
  | succ n ih =>
    obtain ended | ⟨t, ht, -, lit, rest⟩ := State.frameLoop_round n total s
    · exact ended
    have inv := State.advance_inv t (State.cpuStep_inv h)
    rw [rest]
    by_cases still : total + t < 70224
    · exact ih inv still (by omega)
    · have on := lit.resolve_right still
      obtain ⟨k, hk, near, next⟩ := exists_vblank
        (State.InFrame.position_lt ⟨on, inv.ppu.ly_lt, inv.ppu.dot_lt⟩)
      exact State.frameLoop_ends_late inv on (by omega) next hk (by omega)

end Sys2Proof.Machine

open Sys2Proof.Machine in
/-- Settles O58: within the first frame's worth of T-cycles, or within the next before which the LCD stays on
and the VBlank comes. -/
theorem frameEnds : Obligations.FrameEnds :=
  fun _ h => State.frameLoop_ends h (by decide) (by decide)

end

/-! SUPPORT and proofs. The statements of 70_reset_and_hazards.md: the costs of a step, the reset values, and
the invariant at reset and at launch. -/

section

open Sys2Proof.Machine in
/-- Settles O9: a cost that a step returns is the one it latched, and what the peripherals then get. -/
theorem stepCosts : Obligations.StepCosts := by
  intro s n ok
  obtain ⟨cost, latched⟩ := s.cpuStep_costs n ok
  exact ⟨(isCost_iff n).1 cost, latched, step_of_cpuStep (Prod.ext rfl ok)⟩

namespace Sys2Proof.Machine

/-! ## The reset values -/

/-- With no button pressed, a release changes nothing. -/
theorem State.launch_release (cart : Cart) (vram wram oam hram : Memory) (i : Fin 8) :
    (State.launch cart vram wram oam hram).joypad.pressed.set i false =
      (State.launch cart vram wram oam hram).joypad.pressed := by
  match i with | 0 | 1 | 2 | 3 | 4 | 5 | 6 | 7 => rfl

/-- A register reads on the bus of a launch as it does at reset, whatever the cartridge and the memories. -/
theorem State.memRead_launch {r : IoReg} {v : Byte} (h : State.reset.readIo r = v) (cart : Cart)
    (vram wram oam hram : Memory) : (State.launch cart vram wram oam hram).memRead r.addr = v := by
  rw [State.memRead_addr rfl, ← h]
  cases r <;> rfl

end Sys2Proof.Machine

open Sys2Proof Sys2Proof.Machine in
/-- Settles O54: a launch lists each value in its field, and no register reads from the cartridge or the
memories. -/
theorem resetValues : Obligations.ResetValues := by
  refine ⟨fun cart vram wram oam hram => ?launch, rfl⟩
  case launch =>
    refine ⟨
      rfl, rfl, rfl, rfl, rfl, rfl, rfl, rfl, rfl, rfl, rfl, rfl, rfl, rfl, rfl, rfl, rfl, rfl,
      rfl, rfl, rfl, rfl, rfl, rfl, State.launch_release cart vram wram oam hram,
      rfl, rfl, rfl, rfl, rfl, rfl, rfl, rfl, rfl, rfl, rfl, rfl, rfl, rfl, rfl, rfl, rfl, rfl, rfl,
      rfl, fun _ => rfl, fun _ => rfl, rfl, rfl, rfl, rfl, rfl, ?reads, rfl, rfl, rfl, rfl, rfl⟩
    case reads =>
      have io (r : IoReg) {v : Byte} (h : State.reset.readIo r = v) :=
        State.memRead_launch h cart vram wram oam hram
      simp only [List.forall_mem_cons]
      exact ⟨io .p1 rfl, io .sb rfl, io .sc rfl, io .div rfl, io .tima rfl, io .tma rfl, io .tac rfl, io .ifl rfl,
        io .lcdc rfl, io .stat rfl, io .scy rfl, io .scx rfl, io .ly rfl, io .lyc rfl, io .dma rfl, io .bgp rfl,
        io .obp0 rfl, io .obp1 rfl, io .wy rfl, io .wx rfl, State.memRead_of_idle rfl 0xFFFF#16, nofun⟩

namespace Sys2Proof.Machine

/-! ## The invariant at reset -/

theorem Cpu.reset_inv : Cpu.reset.Inv := rfl

theorem Ppu.reset_inv : Ppu.reset.Inv where
  ly_lt := by decide
  dot_lt := by decide
  window_lt := by decide
  coincidence_eq := rfl
  stat_eq := rfl
  sprites_le := by decide
  sprites_lt := nofun
  mode_on _ := rfl
  off := nofun
  index_wf := ⟨rfl, rfl⟩
  shade_wf := ⟨rfl, rfl⟩

/-- A launch meets the invariant if its cartridge and its memories do: the other parts are at their reset
values. -/
theorem State.launch_inv {c : Cart} {vram wram oam hram : Memory} (cart : c.Inv)
    (mem : (State.launch c vram wram oam hram).MemInv) : (State.launch c vram wram oam hram).Inv where
  cpu := Cpu.reset_inv
  timer := Nat.zero_le 4
  serial := (rfl : Serial.Inv { sb := 0, sc := 0 })
  ppu := Ppu.reset_inv
  dma := ⟨Nat.zero_le 640, nofun⟩
  cart := cart
  mem := mem

theorem Cart.blank_inv : Cart.blank.Inv where
  banks := Nat.le_refl 2
  rom_wf := ⟨rfl, rfl⟩
  eram_wf := ⟨rfl, rfl⟩
  mbc := trivial

end Sys2Proof.Machine

open Sys2Proof.Machine in
/-- Settles O59: the reset state is the launch of the blank cartridge with memories that list nothing. -/
theorem resetMeetsInvariant : Obligations.ResetMeetsInvariant :=
  State.launch_inv Cart.blank_inv ⟨⟨rfl, rfl⟩, ⟨rfl, rfl⟩, ⟨rfl, rfl⟩, ⟨rfl, rfl⟩⟩

namespace Sys2Proof.Machine

/-! ## The invariant at launch -/

theorem Cells.ofList_within {w base n : Nat} {row : List (BitVec w)} (h : base + row.length ≤ n) :
    (Cells.ofList base row).within n = true := by
  rw [Cells.within_iff]
  intro c hc
  obtain ⟨-, below, -⟩ := Cells.mem_ofList row base c hc
  omega

/-- The bank registers of every type's controller are not zero at reset (20_memory.md R105, R108). -/
theorem CartType.OfCode.mbc_inv {t : CartType} {n : Nat} (row : t.OfCode n) : t.mbc.Inv := by
  have variant : ∀ n ∈ supportedCodes, n ∈ [0x00, 0x08, 0x09] ∨ n ∈ [0x01, 0x02, 0x03] ∨
      n ∈ [0x0F, 0x10, 0x11, 0x12, 0x13] ∨ n ∈ [0x19, 0x1A, 0x1B, 0x1C, 0x1D, 0x1E] := by decide
  obtain hn | hn | hn | hn := variant n row.supported
  · rw [row.romOnly hn]
    trivial
  · rw [row.mbc1 hn]
    exact (by decide : (1#5) ≠ 0#5)
  · rw [row.mbc3 hn]
    exact (by decide : (1#7) ≠ 0#7)
  · rw [row.mbc5 hn]
    trivial

theorem validRomLength_iff (n : Nat) : validRomLength n = true ↔ 0x8000 ≤ n ∧ n % 0x4000 = 0 := by
  simp [validRomLength]

theorem Cart.importRam_eq_ok {c d : Cart} {b : List Byte} (h : c.importRam b = .ok d) :
    b.length = c.ramSize ∧ d = { c with eram := Cells.ofList 0 b } := by
  unfold Cart.importRam at h
  split_ifs at h with accepted
  obtain ⟨-, length⟩ := Bool.and_eq_true_iff.1 accepted
  cases h
  exact ⟨of_decide_eq_true length, rfl⟩

/-- What the checks of a load let through: a ROM of a legal length, a type of the table, and external RAM as
drawn or as saved. -/
theorem Launch.cart_eq_ok {l : Launch} {c : Cart} (h : l.cart = .ok c) :
    validRomLength l.rom.length = true ∧ ∃ t size, cartType? (l.rom.getD 0x0147 0#8) = some t ∧
      (c = t.cart size l ∨
        ∃ b : List Byte, b.length = size ∧ c = { t.cart size l with eram := Cells.ofList 0 b }) := by
  have passed (e : LoadError) : l.cart ≠ .error e := by simp [h]
  by_cases hv : validRomLength l.rom.length = true
  case neg =>
    have badLength := mt (validRomLength_iff _).2 hv
    exact absurd (Launch.cart_badLength (by omega)) (passed _)
  by_cases hs : l.badChecksum = true
  case pos => exact absurd (Launch.cart_badChecksum hv hs) (passed _)
  cases ht : cartType? (l.rom.getD 0x0147 0#8) with
  | none => exact absurd (Launch.cart_unsupported hv hs ht) (passed _)
  | some t =>
    cases hz : t.ramSize? l.rom with
    | none => exact absurd (Launch.cart_badSize hv hs ht hz) (passed _)
    | some size =>
      refine ⟨hv, t, size, rfl, ?_⟩
      cases hl : l.save with
      | none =>
        rw [Launch.cart_drawn hv hs ht hz hl] at h
        cases h
        exact .inl rfl
      | some b =>
        rw [Launch.cart_saved hv hs ht hz hl] at h
        exact .inr ⟨b, Cart.importRam_eq_ok h⟩

/-- The cartridge that a type makes of an image meets the invariant, whatever fits its RAM. -/
theorem CartType.cart_inv {t : CartType} {n size : Nat} {l : Launch} {eram : Memory} (row : t.OfCode n)
    (hv : validRomLength l.rom.length = true) (ram : eram.wf = true ∧ eram.within size = true) :
    Cart.Inv { t.cart size l with eram := eram } := by
  obtain ⟨least, banks⟩ := (validRomLength_iff _).1 hv
  refine ⟨?_, ⟨Cells.ofList_wf _ _, Cells.ofList_within ?_⟩, ram, row.mbc_inv⟩
  · show 2 ≤ l.rom.length / 0x4000
    omega
  · show 0 + l.rom.length ≤ l.rom.length / 0x4000 * 0x4000
    omega

/-- An accepted load's cartridge meets the invariant, from a canonical draw of its RAM. -/
theorem Launch.cart_inv {l : Launch} {c : Cart} (h : l.cart = .ok c) (draw : l.initRam.eram.wf = true) :
    c.Inv := by
  obtain ⟨hv, t, size, ht, rfl | ⟨b, length, rfl⟩⟩ := Launch.cart_eq_ok h
  · exact CartType.cart_inv (cartType?_ofCode ht) hv ⟨Cells.takeBelow_wf _ _ draw, Cells.takeBelow_within _ _⟩
  · exact CartType.cart_inv (cartType?_ofCode ht) hv ⟨Cells.ofList_wf _ _, Cells.ofList_within (by omega)⟩

/-- Whatever `new` returns is the launch of an accepted load. -/
theorem new_eq_ok {l : Launch} {s : State} (h : new l = .ok s) :
    ∃ c, l.cart = .ok c ∧ s = State.launch c (l.initRam.vram.takeBelow 0x2000)
      (l.initRam.wram.takeBelow 0x2000) (l.initRam.oam.takeBelow 160) (l.initRam.hram.takeBelow 127) := by
  cases hc : l.cart with
  | error e =>
    rw [new_error hc] at h
    cases h
  | ok c =>
    rw [new_ok hc] at h
    cases h
    exact ⟨c, rfl, rfl⟩

end Sys2Proof.Machine

open Sys2Proof.Machine in
/-- Settles O56: `new` returns a launch, whose cartridge passed the load checks and whose memories are the
draws cut to size. -/
theorem launchIsValid : Obligations.LaunchIsValid := by
  intro l s h vram wram oam hram eram
  obtain ⟨c, hc, rfl⟩ := new_eq_ok h
  have cut {m : Memory} (n : Nat) (draw : m.wf = true) :
      (m.takeBelow n).wf = true ∧ (m.takeBelow n).within n = true :=
    ⟨Cells.takeBelow_wf m n draw, Cells.takeBelow_within m n⟩
  exact ⟨State.launch_inv (Launch.cart_inv hc eram) ⟨cut _ vram, cut _ wram, cut _ oam, cut _ hram⟩,
    rfl, rfl, rfl, rfl, rfl, rfl⟩

end
